-- ==== Sys2Proof/Word.lean ====
section
/-! DEFINITION. The word types of the SX-256: bytes of the desk link, 16-bit body fields, clock values, and the
numbers of points, groups, objects and outputs. -/

namespace Sys2Proof

/-- One byte of a frame on the desk link (R154). -/
abbrev Byte := BitVec 8

/-- A two-byte field of a message body, sent high byte first (R154). -/
abbrev Word16 := BitVec 16

/-- A value of the station clock, in units of 0.1 ms, wrapping at 2^32 (R1). -/
abbrev Time := BitVec 32

/-- A sense point, 0 to 255 (R4). -/
abbrev PointId := Fin 256

/-- A group of sixteen sense points, 0 to 15 (R9). -/
abbrev GroupId := Fin 16

/-- An indication object, 0 to 127 (R17). -/
abbrev ObjId := Fin 128

/-- A request-relay output, 0 to 63 (R110). -/
abbrev OutId := Fin 64

end Sys2Proof
end

