-- ==== Sys2Proof/Syntax.lean ====
section
/-! DEFINITION. The commands of the SX-256: one constructor for each row of spec/opcode_table.json. -/

namespace Sys2Proof

/-- A step of the part. A control message carries the BODY bytes of its frame (section 10.7), so that a body of any
length can be written; an event carries the point, object or output it concerns and what the outside supplies. -/
inductive Instr where
  /-- A good frame of TYPE 0x01 (R18). -/
  | defineObject (body : List Byte)
  /-- A good frame of TYPE 0x02 (R111). -/
  | defineOutput (body : List Byte)
  /-- A good frame of TYPE 0x03 (R62). -/
  | setBands (body : List Byte)
  /-- A good frame of TYPE 0x04 (R9, R142). -/
  | setGroup (body : List Byte)
  /-- A good frame of TYPE 0x05 (R164). -/
  | setPartTiming (body : List Byte)
  /-- A good frame of TYPE 0x06 (R101). -/
  | setReporting (body : List Byte)
  /-- A good frame of TYPE 0x07 (R143). -/
  | setSurvey (body : List Byte)
  /-- A good frame of TYPE 0x08 (R33). -/
  | adjustObject (body : List Byte)
  /-- A good frame of TYPE 0x09 (R112). -/
  | adjustOutput (body : List Byte)
  /-- A good frame of TYPE 0x0A (R171). -/
  | start (body : List Byte)
  /-- A good frame of TYPE 0x0B (R35). -/
  | suspendObject (body : List Byte)
  /-- A good frame of TYPE 0x0C (R36). -/
  | resumeObject (body : List Byte)
  /-- A good frame of TYPE 0x10 (R115). -/
  | pulseOutput (body : List Byte)
  /-- A good frame of TYPE 0x11 (R117). -/
  | latchOutput (body : List Byte)
  /-- A good frame of TYPE 0x12 (R118). -/
  | releaseOutput (body : List Byte)
  /-- A good frame of TYPE 0x13 (R119). -/
  | groupPulse (body : List Byte)
  /-- A good frame of TYPE 0x14 (R121). -/
  | releaseAll (body : List Byte)
  /-- A good frame of TYPE 0x18 (R103). -/
  | snapshot (body : List Byte)
  /-- A good frame of TYPE 0x20 (R37). -/
  | readObject (body : List Byte)
  /-- A good frame of TYPE 0x21 (R129). -/
  | readOutput (body : List Byte)
  /-- A good frame of TYPE 0x22 (R15). -/
  | readPoints (body : List Byte)
  /-- A good frame of TYPE 0x23 (R153). -/
  | readHealth (body : List Byte)
  /-- A good frame of TYPE 0x24 (R1). -/
  | readClock (body : List Byte)
  /-- A good frame of TYPE 0x25 (R165). -/
  | readStatus (body : List Byte)
  /-- A good frame of TYPE 0x30 (R172). -/
  | storeImage (body : List Byte)
  /-- A good frame of TYPE 0x31 (R163). -/
  | reset (body : List Byte)
  /-- A good frame whose TYPE names no control message (R161). -/
  | unknownType (type : Byte) (body : List Byte)
  /-- A LEN byte of 0 or above 250 is taken in phase LENGTH (R156). -/
  | lengthError (len : Byte)
  /-- The last byte of a frame is taken and the check differs (R156). -/
  | checkError (last : Byte)
  /-- The gap after the last byte kept of a begun frame reaches 51 units (R157). -/
  | frameAbandon
  /-- A sample of the point differs from its raw level (R5). -/
  | rawTransition (p : PointId)
  /-- The point's filter run reaches its run filter time (R6). -/
  | edgeAccept (p : PointId)
  /-- The object's settle-in deadline is reached (R25). -/
  | settleInDeadline (n : ObjId)
  /-- The object's transit deadline is reached (R44). -/
  | transitDeadline (n : ObjId)
  /-- The object's conflict deadline is reached (R55). -/
  | conflictDeadline (n : ObjId)
  /-- The object's steady deadline is reached (R74). -/
  | steadyDeadline (n : ObjId)
  /-- The next boundary of the chatter window is reached (R86). -/
  | chatterBoundary
  /-- The output's pulse end time is reached (R116). -/
  | pulseEnd (o : OutId)
  /-- The output's readback input shows the level (R122). -/
  | readbackChange (o : OutId) (on : Bool)
  /-- The output's mismatch reaches the driver check time (R123). -/
  | driverCheckFault (o : OutId)
  /-- The deadline of the output's proof is reached (R136). -/
  | proofDeadline (o : OutId)
  /-- The silence deadline is reached (R125). -/
  | silenceDeadline
  /-- The survey's next attempt time is reached (R144). -/
  | surveyAttempt
  /-- The reference gate ends and the channel has counted this much (R147). -/
  | referenceGateEnd (count : Nat)
  /-- The point gate ends and the channel has counted this much (R146). -/
  | pointGateEnd (count : Nat)
  /-- The image load ends; the configuration memory has responded or not (R170). -/
  | imageLoadEnd (responds : Bool)
  /-- The store ends; every part was written and read back correctly, or not (R173). -/
  | storeEnd (good : Bool)
  /-- The transmitter finishes the frame on the line (R99). -/
  | frameSent
  /-- A reset is taken by power-on or the RESET line (R169). -/
  | resetTaken
  /-- The reset ends, with the straps fitted as bits 1 and 0 say (1 for fitted) and the contact of point p made where
  bit p is 1 at the first sample (R169, R167, R11). -/
  | resetEnd (straps : BitVec 2) (contacts : BitVec 256)
  /-- The half period of the flashing RUN lamp elapses (R174). -/
  | lampFlash
  /-- A byte is taken on the receive pair (R156). -/
  | byteTaken (b : Byte)
  deriving DecidableEq, Repr

end Sys2Proof
end

