-- ==== Sys2Proof/Decode.lean ====
section
/-! DEFINITION. The command a word spells by the bits of spec/opcode_table.json. Every row of that table gives no
bits ("fields": [] and no "fixed"), so no word spells a command; the commands reach the module as frames and events.
The bytes of a frame are read by the receiver (Machine/Link.lean) and the body parsers (Machine/Operands.lean). -/

namespace Sys2Proof

/-- No row of the table gives bits: no word spells a command. -/
def decodeTableWord (_nbits _w : Nat) : Option Instr := none

end Sys2Proof
end

