-- ==== Sys2Proof/Config.lean ====
section
/-! DEFINITION. What is fixed for the machine: the lengths the spec states as constants, and the free values, which
are opaque so that nothing can be proved about them (the assumption log names each). -/

namespace Sys2Proof.Config

/-- The driver check time: 20 ms (R122). -/
def driverCheckUnits : Nat := 200

/-- The gap at which a begun frame is abandoned (R157). -/
def gapUnits : Nat := 51

/-- One gate of a survey measurement: 10 ms (R146). -/
def gateUnits : Nat := 100

/-- The least good reference count (R147). -/
def referenceMinimum : Nat := 500

/-- Half a period of the flashing RUN lamp: 0.5 s (R174). -/
def flashUnits : Nat := 5000

/-- The longest image load: 1.5 s (R170). -/
def loadUnits : Nat := 15000

/-- The longest store: 3 s (R173). -/
def storeUnits : Nat := 30000

/-- The answers the answer queue holds (R160). -/
def answerPlaces : Nat := 4

/-- Which of several things that may be taken in either order is taken next (log 2, log 13): the n-th free choice. -/
opaque freeIndex : Nat → Nat

/-- What a measuring channel counts at a gate end that the clock's own step takes (log 9): the n-th free count. -/
opaque freeCount : Nat → Word16

/-- Whether the memory responds, a store succeeds, or a partial image keeps its signature, where only the outside
decides (log 8, log 9): the n-th free answer. -/
opaque freeBool : Nat → Bool

/-- What a store that did not complete leaves between the signature and the check (log 8): the n-th free content. -/
opaque freeContent : Nat → List Byte

/-- A word such a store leaves where the spec says only what it is not (log 8): the n-th free word. -/
opaque freeWord : Nat → Word16

/-- The signature an erasing store writes, made other than GW where it is used (R172, log 8). -/
opaque erasedWord : Word16

/-- Whether the RUN lamp is lit in the first half period after it begins to flash (log 12): the n-th free answer. -/
opaque freeLamp : Nat → Bool

/-- Whether the flags byte of a Read Object answer shows the suspended and unproven bits as a report does (log 17). -/
opaque readObjectShowsAllFlags : Bool

/-- Whether an output's snapshot record beside an urgent entry carries the outcomes-lost count as it stands, or 0
(R107 names no count; log 18). -/
opaque urgentRecordShowsLost : Bool

end Sys2Proof.Config
end

