-- ==== Sys2Proof/Machine/State.lean ====
section
/-! DEFINITION. The state of the SX-256: every record the spec gives the module, its reset values, and the reasons a
step could stop (the spec gives none). Counts, lengths and settings are Nat and are kept in their ranges by the
operations; clock values wrap and are bit vectors. -/

namespace Sys2Proof.Machine

/-- No command of this block faults: the spec describes no condition that stops the module. -/
inductive Fault where
  deriving DecidableEq, Repr

/-- Why a step has no meaning. -/
inductive Refusal where
  /-- Raised by an arm of exec for a command without a meaning; no arm raises it. Safe. -/
  | notModelled (mnemonic : String)
  deriving DecidableEq, Repr

/-! ## Start-up -/

/-- The part state (R168). -/
inductive PartState where
  | loading | configuring | running
  deriving DecidableEq, Repr

/-- The image status, as the last image load left it (R97, R170). -/
inductive ImageStatus where
  | noImage | imageBad | loaded | startFailed
  deriving DecidableEq, Repr

/-- The line rate the straps selected, in the row order of R167. -/
inductive Baud where
  | b19200 | b38400 | b57600 | b115200
  deriving DecidableEq, Repr

/-! ## Sense front end -/

/-- The level of a contact: MADE, or OPEN (written opn). -/
inductive Level where
  | made | opn
  deriving DecidableEq, Repr

/-- A sense point record (R4). -/
structure Point where
  raw : Level
  filtered : Level
  runStart : Time
  runFilter : Nat
  lastEdge : Time
  glitch : Nat
  owner : Option ObjId
  deriving DecidableEq, Repr

/-- A group's settings and its reference fault flag (R9, R142). -/
structure Group where
  filterMs : Nat
  survey : Bool
  refRes : Nat
  refFault : Bool
  deriving DecidableEq, Repr

/-! ## Part settings -/

/-- The four part timing settings (R23, R39, R80, R124). -/
structure PartTiming where
  settleInMs : Nat
  conflictMs : Nat
  windowS : Nat
  silenceMs : Nat
  deriving DecidableEq, Repr

/-- The ratio mode of the scheduler (R100). -/
inductive RatioMode where
  | strict | r8 | r4 | r2
  deriving DecidableEq, Repr

/-- Where a snapshot sends the part summary record (R101). -/
inductive SummaryPos where
  | first | last
  deriving DecidableEq, Repr

/-- The reporting settings (R101). -/
structure Reporting where
  ratio : RatioMode
  position : SummaryPos
  deriving DecidableEq, Repr

/-- The survey settings (R143). -/
structure SurveySettings where
  intervalMs : Nat
  degrade : Nat
  clear : Nat
  deriving DecidableEq, Repr

/-- A band of code rates (R61). -/
structure Band where
  min : Nat
  max : Nat
  deriving DecidableEq, Repr

/-! ## Indication objects -/

/-- An indication value (section 2.2); code n is CODE_(n+1). -/
inductive Indication where
  | unproven | picked | dropped | lost | conflict | steadyMade | steadyOpen
  | code (n : Fin 8)
  | noCode
  deriving DecidableEq, Repr

/-- The evaluated indication: a value that can be shown, or one of the two internal values of a PAIR (R60). -/
inductive Evaluated where
  | shown (i : Indication)
  | transit
  | conflictPending
  deriving DecidableEq, Repr

/-- A rest state of a relay: what an origin and a settled indication can be (R19, R38). -/
inductive Rest where
  | picked | dropped
  deriving DecidableEq, Repr

/-- How a SINGLE object's contact is read (section 2.1.1). -/
inductive Sense where
  | front | back
  deriving DecidableEq, Repr

/-- The kind of an object, with the field only that kind has: the sense, or point B. -/
inductive Kind where
  | single (sense : Sense)
  | pair (pointB : PointId)
  | coded
  deriving DecidableEq, Repr

/-- The definition of an object, its parameters being those in force (section 2.1.1); a parameter the kind does not
use holds 0 (log 25). -/
structure ObjDef where
  kind : Kind
  pointA : PointId
  tag : Nat
  urgent : Bool
  transitMs : Nat
  chatterLimit : Nat
  steadyMs : Nat
  service : Nat
  deriving DecidableEq, Repr

/-- The staged values of an object (R34). -/
structure Staged where
  transit : Option Nat
  chatter : Option Nat
  steady : Option Nat
  deriving DecidableEq, Repr

/-- Whether an object is evaluated (R19, R35). -/
inductive Admission where
  | live | suspended
  deriving DecidableEq, Repr

/-- The eight events of an object; an object's pending events are a set of them, bit 0 first in this order (R31). -/
inductive Event where
  | slow | quarantineOn | aborted | quarantineOff | degradedOn | degradedOff | serviceDue | overlap
  deriving DecidableEq, Repr

/-- The direction of a recorded transit (R38). -/
inductive Direction where
  | pickUp | dropAway
  deriving DecidableEq, Repr

/-- The transit and conflict fields of a PAIR object (R38). -/
structure PairRec where
  transitStart : Option Time
  transitDeadline : Option Time
  conflictStart : Option Time
  conflictDeadline : Option Time
  lastPickUp : Nat
  lastDropAway : Nat
  lastDir : Option Direction
  deriving DecidableEq, Repr

/-- The code record of a CODED object (R66). -/
structure CodeRec where
  anchor : Option Time
  periods : List Nat
  candidate : Option Indication
  lastRate : Nat
  lastOnTime : Nat
  lastDuty : Nat
  steadyDeadline : Option Time
  deriving DecidableEq, Repr

/-- The record of an indication object (R19, R38, R66, R82). -/
structure Obj where
  cfg : ObjDef
  staged : Staged
  admission : Admission
  evaluated : Evaluated
  reported : Indication
  origin : Option Rest
  settled : Option Rest
  lastChange : Time
  changes : Nat
  events : BitVec 8
  quarantined : Bool
  degraded : Bool
  opCount : Nat
  serviceLatch : Bool
  serviceTest : Bool
  windowCount : Nat
  settleDeadline : Option Time
  pair : PairRec
  code : CodeRec
  deriving DecidableEq, Repr

/-- The chatter window in progress: its start and the next boundary (R81). -/
structure Window where
  start : Time
  next : Time
  deriving DecidableEq, Repr

/-! ## Report scheduler -/

/-- The class of a report or of a request for one (R21, R93). -/
inductive ReportClass where
  | urgent | routine
  deriving DecidableEq, Repr

/-- A source of reports (section 6.1). -/
inductive Source where
  | object (n : ObjId)
  | output (o : OutId)
  | part
  deriving DecidableEq, Repr

/-- An entry of a queue (R92). -/
structure Entry where
  source : Source
  created : Time
  deriving DecidableEq, Repr

/-- The next record a snapshot sends (R102). -/
inductive Cursor where
  | snapBegin
  | summary
  | object (n : ObjId)
  | output (o : OutId)
  | snapEnd
  deriving DecidableEq, Repr

/-- A snapshot in progress: its summary position, its cursor and the records sent since SNAP_BEGIN (R102, R104). -/
structure Snapshot where
  position : SummaryPos
  cursor : Cursor
  sent : Nat
  deriving DecidableEq, Repr

/-- The pending part events (R97); bit g of a group set stands for group g. -/
structure PartEvents where
  refFault : BitVec 16
  refRestored : BitVec 16
  deskSilence : Bool
  imageStored : Bool
  imageFailed : Bool
  deriving DecidableEq, Repr

/-! ## Outputs and proofs -/

/-- The mode of an output (R110). -/
inductive Mode where
  | pulseOnly | latchable
  deriving DecidableEq, Repr

/-- The definition of an output, its lengths being those in force (R110). -/
structure OutDef where
  tag : Nat
  mode : Mode
  partner : Option OutId
  proving : Option ObjId
  expected : Option Indication
  pulseMs : Nat
  provingMs : Nat
  deriving DecidableEq, Repr

/-- The state of an output; PULSING holds its pulse end time (R113). -/
inductive OutState where
  | off
  | pulsing (endTime : Time)
  | latched
  | faulted
  deriving DecidableEq, Repr

/-- The outcome of a proof (R126). -/
inductive ProofOutcome where
  | proven | already | noProof | unproven | abandoned | driverFault
  deriving DecidableEq, Repr

/-- The command that started a proof (R120). -/
inductive CmdKind where
  | pulse | latch | group
  deriving DecidableEq, Repr

/-- The outcome record of an output (R126). -/
structure OutcomeRec where
  outcome : Option ProofOutcome
  kind : Option CmdKind
  start : Time
  time : Nat
  unsent : Bool
  lost : Nat
  deriving DecidableEq, Repr

/-- The record of a defined output (R110 to R113, R122, R126). -/
structure Output where
  cfg : OutDef
  stagedPulse : Option Nat
  stagedProving : Option Nat
  state : OutState
  mismatch : Option Time
  result : OutcomeRec
  deriving DecidableEq, Repr

/-- The phase of a proof (R131). -/
inductive ProofPhase where
  | none | awaitingPulseEnd | watching
  deriving DecidableEq, Repr

/-- A proof record (R131). -/
structure Proof where
  phase : ProofPhase
  kind : Option CmdKind
  start : Time
  object : Option ObjId
  expected : Option Indication
  deadline : Option Time
  deriving DecidableEq, Repr

/-! ## Contact survey -/

/-- The phase of a measurement in progress; POINT holds the reference count taken (R146). -/
inductive MeasurePhase where
  | reference
  | point (refCount : Nat)
  deriving DecidableEq, Repr

/-- The measurement record while a measurement is in progress (R146). -/
structure Measurement where
  phase : MeasurePhase
  point : PointId
  start : Time
  deriving DecidableEq, Repr

/-- A health record (R150). -/
structure Health where
  last : Nat
  highest : Nat
  count : Nat
  overCount : Nat
  degraded : Bool
  deriving DecidableEq, Repr

/-! ## Desk link -/

/-- The phase of the receiver (R156). -/
inductive RxPhase where
  | hunt | length | collect
  deriving DecidableEq, Repr

/-- The receiver: its phase, the bytes kept (oldest first) with the times they arrived, and whether a Reset closed it
(R156 to R158, R163). -/
structure Receiver where
  phase : RxPhase
  kept : List (Byte × Time)
  closed : Bool
  deriving DecidableEq, Repr

/-- The four link error counts (R159). -/
structure LinkErrors where
  length : Nat
  check : Nat
  abandoned : Nat
  overruns : Nat
  deriving DecidableEq, Repr

/-- An answer code (R161). -/
inductive AnswerCode where
  | accepted | acceptedClamped | wrongState | noSuch | badForm | inUse | excluded | driverFaulted | busy | overlap
  | badConfig | unknownType
  deriving DecidableEq, Repr

/-- A complete answer: the echoed TYPE, the code and the data after it, cut into the shares of its parts (R160,
R162); an answer with no more than one share is one frame. -/
structure Answer where
  echo : Byte
  code : AnswerCode
  data : List (List Byte)
  deriving DecidableEq, Repr

/-- A frame: its TYPE and BODY; SOF, LEN and the check follow from them (R154, R155). -/
structure Frame where
  type : Byte
  body : List Byte
  deriving DecidableEq, Repr

/-- The transmitter while a frame is on the line: that frame, the parts of the same answer that follow it back to
back (R162), the clock value at which it began, and whether it belongs to the Reset answer (R163). -/
structure Transmission where
  frame : Frame
  parts : List Frame
  start : Time
  isReset : Bool
  deriving DecidableEq, Repr

/-! ## The configuration image -/

/-- The body of a Define Object, field by field (section 10.7); also an object definition of the image. -/
structure ObjectForm where
  number : Byte
  kind : Byte
  pointA : Byte
  pointB : Byte
  sense : Byte
  tag : Word16
  urgent : Byte
  presence : Byte
  transitMs : Word16
  chatterLimit : Byte
  steadyMs : Word16
  service : Word16
  deriving DecidableEq, Repr

/-- The body of a Define Output, field by field (section 10.7); also an output definition of the image. -/
structure OutputForm where
  number : Byte
  tag : Word16
  mode : Byte
  presence : Byte
  partner : Byte
  proving : Byte
  expected : Byte
  pulseMs : Word16
  provingMs : Word16
  deriving DecidableEq, Repr

/-- A group's settings as a message or the image gives them. -/
structure GroupForm where
  filterMs : Byte
  survey : Bool
  refRes : Word16
  deriving DecidableEq, Repr

/-- The part timing settings as the image gives them. -/
structure TimingForm where
  settleInMs : Word16
  conflictMs : Word16
  windowS : Byte
  silenceMs : Word16
  deriving DecidableEq, Repr

/-- The survey settings as a message or the image gives them. -/
structure SurveyForm where
  intervalMs : Word16
  degrade : Word16
  clear : Word16
  deriving DecidableEq, Repr

/-- A slot of the band table as a message or the image gives it: absent, or a minimum and a maximum. -/
abbrev BandForm := Option (Word16 × Word16)

/-- The content of an image, in the order of R170. Its bytes are laid out in Machine/ImageLayout.lean (log 7); a byte
of the memory that names none of the values of a field here makes no image (log 35). -/
structure Image where
  autostart : Bool
  groups : Vector GroupForm 16
  bands : Vector BandForm 8
  timing : TimingForm
  reporting : Reporting
  survey : SurveyForm
  objects : List ObjectForm
  outputs : List OutputForm
  deriving DecidableEq, Repr

/-- The serial configuration memory: the two bytes of the signature, every byte between the signature and the check,
and the two bytes of the check (R170; the layout of the bytes between is log 7's). -/
structure ConfigMemory where
  signature : Word16
  content : List Byte
  check : Word16
  deriving DecidableEq, Repr

/-- A store in progress: when it was accepted and the copy it writes, none for an erase (R172, R173). -/
structure StoreJob where
  start : Time
  copy : Option Image
  deriving DecidableEq, Repr

/-! ## The whole state -/

/-- The state of the module. -/
structure State where
  /-- The commands waiting, first in first out. -/
  pending : List Instr
  /-- How many free values have been drawn (log 34). -/
  free : Nat
  inReset : Bool
  clock : Time
  baud : Baud
  partState : PartState
  imageStatus : ImageStatus
  store : Option StoreJob
  memory : ConfigMemory
  goodFrame : Bool
  flashLit : Bool
  flashStart : Time
  points : Vector Point 256
  groups : Vector Group 16
  timing : PartTiming
  reporting : Reporting
  surveySet : SurveySettings
  bands : Vector (Option Band) 8
  objects : Vector (Option Obj) 128
  window : Option Window
  urgent : List Entry
  routine : List Entry
  urgentRun : Nat
  snapshot : Option Snapshot
  part : PartEvents
  deskSilent : Bool
  outputs : Vector (Option Output) 64
  readback : Vector Bool 64
  silenceDeadline : Option Time
  proofs : Vector Proof 64
  nextAttempt : Option Time
  surveyCursor : PointId
  measure : Option Measurement
  health : Vector Health 256
  rx : Receiver
  errors : LinkErrors
  answers : List Answer
  tx : Option Transmission
  deriving DecidableEq, Repr

/-! ## Reset values -/

/-- A point after reset (R4); the raw level is the one the first sample sets (R11). -/
def Point.reset (raw : Level) : Point :=
  { raw := raw, filtered := .opn, runStart := 0, runFilter := 40, lastEdge := 0, glitch := 0, owner := none }

/-- A group after reset (R9, R142). -/
def Group.reset : Group := { filterMs := 4, survey := false, refRes := 1000, refFault := false }

/-- The part timing after reset (R23, R39, R80, R124). -/
def PartTiming.reset : PartTiming := { settleInMs := 1000, conflictMs := 40, windowS := 2, silenceMs := 3000 }

/-- The reporting settings after reset (R101). -/
def Reporting.reset : Reporting := { ratio := .r4, position := .last }

/-- The survey settings after reset (R143). -/
def SurveySettings.reset : SurveySettings := { intervalMs := 1000, degrade := 500, clear := 300 }

/-- The part entry with nothing pending (R97). -/
def PartEvents.empty : PartEvents :=
  { refFault := 0, refRestored := 0, deskSilence := false, imageStored := false, imageFailed := false }

/-- An empty proof record (R131). -/
def Proof.reset : Proof :=
  { phase := .none, kind := none, start := 0, object := none, expected := none, deadline := none }

/-- A health record after reset (R150). -/
def Health.reset : Health := { last := 0, highest := 0, count := 0, overCount := 0, degraded := false }

/-- The receiver after reset (R156, R163). -/
def Receiver.reset : Receiver := { phase := .hunt, kept := [], closed := false }

/-- The link error counts after reset (R159). -/
def LinkErrors.reset : LinkErrors := { length := 0, check := 0, abandoned := 0, overruns := 0 }

/-- A memory in which a load finds no image: a signature other than GW and nothing after it (log 5). -/
def ConfigMemory.blank : ConfigMemory := { signature := 0xFFFF#16, content := [], check := 0 }

/-- The machine at the moment a power-on reset ends: the clock at 0, image load begun, every record as R169 and the
"after reset" columns give it. The straps, the contacts, the readbacks and the memory, which the spec leaves to the
outside, are as log 5 says. -/
def State.reset : State where
  pending := []
  free := 0
  inReset := false
  clock := 0
  baud := .b19200
  partState := .loading
  imageStatus := .noImage
  store := none
  memory := ConfigMemory.blank
  goodFrame := false
  flashLit := false
  flashStart := 0
  points := Vector.replicate 256 (Point.reset .opn)
  groups := Vector.replicate 16 Group.reset
  timing := PartTiming.reset
  reporting := Reporting.reset
  surveySet := SurveySettings.reset
  bands := Vector.replicate 8 none
  objects := Vector.replicate 128 none
  window := none
  urgent := []
  routine := []
  urgentRun := 0
  snapshot := none
  part := PartEvents.empty
  deskSilent := false
  outputs := Vector.replicate 64 none
  readback := Vector.replicate 64 false
  silenceDeadline := none
  proofs := Vector.replicate 64 Proof.reset
  nextAttempt := none
  surveyCursor := 0
  measure := none
  health := Vector.replicate 256 Health.reset
  rx := Receiver.reset
  errors := LinkErrors.reset
  answers := []
  tx := none

end Sys2Proof.Machine
end

