-- ==== Sys2Proof/WellFormed.lean ====
section
/-! DEFINITION. Which commands can arise: a body that fits a frame, a type that names no control message, a bad LEN
byte. -/

namespace Sys2Proof

/-- The type bytes of the control messages (section 10.4). -/
def controlTypes : List Byte :=
  [0x01, 0x02, 0x03, 0x04, 0x05, 0x06, 0x07, 0x08, 0x09, 0x0A, 0x0B, 0x0C, 0x10, 0x11, 0x12, 0x13, 0x14, 0x18,
   0x20, 0x21, 0x22, 0x23, 0x24, 0x25, 0x30, 0x31]

/-- A LEN byte that begins no frame: 0, or above 250 (R154, R156). -/
def badLen (b : Byte) : Bool := b.toNat == 0 || 250 < b.toNat

/-- The body of a frame has LEN - 1 bytes and LEN is at most 250 (R154). -/
def bodyFits (body : List Byte) : Bool := decide (body.length ≤ 249)

/-- The command can arise on the module. -/
def Instr.wellFormed : Instr → Bool
  | .defineObject b | .defineOutput b | .setBands b | .setGroup b | .setPartTiming b | .setReporting b
  | .setSurvey b | .adjustObject b | .adjustOutput b | .start b | .suspendObject b | .resumeObject b
  | .pulseOutput b | .latchOutput b | .releaseOutput b | .groupPulse b | .releaseAll b | .snapshot b
  | .readObject b | .readOutput b | .readPoints b | .readHealth b | .readClock b | .readStatus b
  | .storeImage b | .reset b => bodyFits b
  | .unknownType t b => !controlTypes.contains t && bodyFits b
  | .lengthError b => badLen b
  | .checkError _ | .frameAbandon | .rawTransition _ | .edgeAccept _ | .settleInDeadline _ | .transitDeadline _
  | .conflictDeadline _ | .steadyDeadline _ | .chatterBoundary | .pulseEnd _ | .readbackChange _ _
  | .driverCheckFault _ | .proofDeadline _ | .silenceDeadline | .surveyAttempt | .referenceGateEnd _
  | .pointGateEnd _ | .imageLoadEnd _ | .storeEnd _ | .frameSent | .resetTaken | .resetEnd _ _ | .lampFlash | .byteTaken _ => true

end Sys2Proof
end

