-- ==== Sys2Proof/Machine/Ops.lean ====
section
/-! DEFINITION. The named operations every block uses: clock arithmetic, the records of the tables, the request of a
queue entry, framing and the frame check. -/

namespace Sys2Proof.Machine

/-! ## Clock arithmetic -/

/-- The interval from an earlier to a later clock value, modulo 2^32 (R2). -/
def interval (earlier later : Time) : Nat := (later - earlier).toNat

/-- The clock value a number of units after another. -/
def after (t : Time) (units : Nat) : Time := t + BitVec.ofNat 32 units

/-- A deadline has been reached. R2 measures both intervals from the time the deadline was set; every length is
below 2^31 units, so that is the same as the deadline lying less than 2^31 units back. DEDUCED (log 21). -/
def reached (deadline now : Time) : Bool := decide (interval deadline now < 2147483648)

/-- An optional deadline has been reached. -/
def deadlineReached (deadline : Option Time) (now : Time) : Bool :=
  match deadline with
  | some d => reached d now
  | none => false

/-- The capture time x precedes y (R40). -/
def precedes (x y : Time) : Bool := decide (1 ≤ interval x y ∧ interval x y ≤ 2147483647)

/-- A setting in whole milliseconds as a length in clock units (R2). -/
def msUnits (ms : Nat) : Nat := ms * 10

/-- A duration as a report carries it (R3). -/
def sat16 (n : Nat) : Nat := min n 65535

/-- One more on a saturating count. -/
def satInc (limit n : Nat) : Nat := min (n + 1) limit

/-- A value moved to the nearest limit of its range (section 0.6). -/
def clamp (lo hi x : Nat) : Nat := max lo (min x hi)

/-! ## Tables -/

/-- A table with one place replaced. -/
def upd {α : Type} {n : Nat} (v : Vector α n) (i : Fin n) (a : α) : Vector α n := v.set i.val a i.isLt

/-- Point p. -/
def State.point (s : State) (p : PointId) : Point := s.points.get p

/-- The group of a point: floor(p / 16) (section 1.2). -/
def groupOf (p : PointId) : GroupId := ⟨p.val / 16, by omega⟩

/-- Group g. -/
def State.group (s : State) (g : GroupId) : Group := s.groups.get g

/-- Object n, if it is defined. -/
def State.object (s : State) (n : ObjId) : Option Obj := s.objects.get n

/-- Output o, if it is defined. -/
def State.output (s : State) (o : OutId) : Option Output := s.outputs.get o

/-- The proof record of output o. -/
def State.proof (s : State) (o : OutId) : Proof := s.proofs.get o

/-- The health record of point p. -/
def State.healthOf (s : State) (p : PointId) : Health := s.health.get p

/-- The level on the readback input of output o. -/
def State.readbackOn (s : State) (o : OutId) : Bool := s.readback.get o

/-- Replace point p. -/
def State.setPoint (s : State) (p : PointId) (x : Point) : State := { s with points := upd s.points p x }

/-- Replace group g. -/
def State.setGroup (s : State) (g : GroupId) (x : Group) : State := { s with groups := upd s.groups g x }

/-- Replace object n. -/
def State.setObject (s : State) (n : ObjId) (x : Obj) : State := { s with objects := upd s.objects n (some x) }

/-- Replace output o. -/
def State.setOutput (s : State) (o : OutId) (x : Output) : State := { s with outputs := upd s.outputs o (some x) }

/-- Replace the proof record of output o. -/
def State.setProof (s : State) (o : OutId) (x : Proof) : State := { s with proofs := upd s.proofs o x }

/-- Replace the health record of point p. -/
def State.setHealth (s : State) (p : PointId) (x : Health) : State := { s with health := upd s.health p x }

/-- The filter time of a point's group in clock units (R5, R10). -/
def State.filterUnits (s : State) (p : PointId) : Nat := msUnits (s.group (groupOf p)).filterMs

/-- The numbers of the defined objects, ascending. -/
def State.definedObjects (s : State) : List ObjId := (List.finRange 128).filter fun n => (s.object n).isSome

/-- The numbers of the defined outputs, ascending. -/
def State.definedOutputs (s : State) : List OutId := (List.finRange 64).filter fun o => (s.output o).isSome

/-- A number byte as an object number, none above 127. -/
def objectNumber (b : Byte) : Option ObjId := if h : b.toNat < 128 then some ⟨b.toNat, h⟩ else none

/-- A number byte as an output number, none above 63. -/
def outputNumber (b : Byte) : Option OutId := if h : b.toNat < 64 then some ⟨b.toNat, h⟩ else none

/-- A number byte as a group number, none above 15. -/
def groupNumber (b : Byte) : Option GroupId := if h : b.toNat < 16 then some ⟨b.toNat, h⟩ else none

/-- A number byte as a point number: every value names a point (R12). -/
def pointNumber (b : Byte) : PointId := ⟨b.toNat, b.isLt⟩

/-- The object a number byte names, if it is in range and defined. -/
def State.findObject (s : State) (b : Byte) : Option (ObjId × Obj) :=
  match objectNumber b with
  | some n => (s.object n).map fun o => (n, o)
  | none => none

/-- The output a number byte names, if it is in range and defined. -/
def State.findOutput (s : State) (b : Byte) : Option (OutId × Output) :=
  match outputNumber b with
  | some i => (s.output i).map fun o => (i, o)
  | none => none

/-! ## Outputs as the other blocks see them -/

/-- The output is commanded energised (R113). -/
def OutState.energised : OutState → Bool
  | .pulsing _ | .latched => true
  | .off | .faulted => false

/-- The level an output's driver is commanded to; an undefined output's driver is off (R110, R113). -/
def State.driverOn (s : State) (o : OutId) : Bool :=
  match s.output o with
  | some x => x.state.energised
  | none => false

/-- The faulted outputs count of the part entry (R97, log 24). -/
def State.faultedOutputs (s : State) : Nat :=
  ((List.finRange 64).filter fun o => (s.output o).any fun x => decide (x.state = .faulted)).length

/-- A set of groups as two bytes hold it, bit g for group g (section 10.7). -/
def groupBit (g : GroupId) : BitVec 16 := 1#16 <<< g.val

/-- The reference fault set of the part entry (R97, log 24). -/
def State.refFaultSet (s : State) : BitVec 16 :=
  (List.finRange 16).foldl (fun acc g => if (s.group g).refFault then acc ||| groupBit g else acc) 0

/-! ## Requests for a queue entry -/

/-- A queue holds an entry of the source. -/
def holds (q : List Entry) (src : Source) : Bool := q.any fun e => decide (e.source = src)

/-- A queue without the entry of the source. -/
def without (q : List Entry) (src : Source) : List Entry := q.filter fun e => decide (e.source ≠ src)

/-- The entry of the source in a queue. -/
def entryOf (q : List Entry) (src : Source) : Option Entry := q.find? fun e => decide (e.source = src)

/-- A source requests an entry: it is created at the tail, promoted behind every urgent entry with its creation time
kept, or nothing moves (R93). -/
def request (src : Source) (cls : ReportClass) (s : State) : State :=
  if holds s.urgent src then s
  else match entryOf s.routine src, cls with
    | some e, .urgent => { s with routine := without s.routine src, urgent := s.urgent ++ [e] }
    | some _, .routine => s
    | none, .urgent => { s with urgent := s.urgent ++ [{ source := src, created := s.clock }] }
    | none, .routine => { s with routine := s.routine ++ [{ source := src, created := s.clock }] }

/-- The source's entry, in whichever queue it stands, is removed (R35, R96). -/
def removeEntry (src : Source) (s : State) : State :=
  { s with urgent := without s.urgent src, routine := without s.routine src }

/-- The more urgent of two reasons, where none is no reason (R32). -/
def joinReason : Option ReportClass → Option ReportClass → Option ReportClass
  | some .urgent, _ | _, some .urgent => some .urgent
  | none, r => r
  | some .routine, _ => some .routine

/-! ## Free choices -/

/-- Pick one of a non-empty list by the k-th free choice; a list of one needs none (log 2, log 13). -/
def freePick {α : Type} (k : Nat) (x : α) : List α → α
  | [] => x
  | xs => ((x :: xs)[Config.freeIndex k % (x :: xs).length]?).getD x

/-- Some order of the list, chosen freely from the k-th free choice on; a list of at most one has one order. -/
def freeOrder {α : Type} [DecidableEq α] : Nat → Nat → List α → List α
  | 0, _, l => l
  | _ + 1, _, [] => []
  | _ + 1, _, [x] => [x]
  | n + 1, k, x :: xs =>
    let y := freePick k x xs
    y :: freeOrder n (k + 1) ((x :: xs).erase y)

/-! ## Frames -/

/-- The byte 0xA5 that begins a frame (R154). -/
def sof : Byte := 0xA5

/-- One shift of the check register (R155). -/
def crcShift (r : BitVec 16) : BitVec 16 := if r.msb then (r <<< 1) ^^^ 0x1021#16 else r <<< 1

/-- The check register after one more byte (R155). -/
def crcByte (r : BitVec 16) (b : Byte) : BitVec 16 :=
  let r0 := r ^^^ (b.zeroExtend 16 <<< 8)
  crcShift (crcShift (crcShift (crcShift (crcShift (crcShift (crcShift (crcShift r0)))))))

/-- The frame check over LEN, TYPE and BODY (R155). -/
def crc (bytes : List Byte) : BitVec 16 := bytes.foldl crcByte 0xFFFF#16

/-- A two-byte field, high byte first (R154). -/
def be16 (n : Nat) : List Byte := [BitVec.ofNat 8 (n / 256), BitVec.ofNat 8 n]

/-- A clock value, high byte first (R154). -/
def be32 (t : Time) : List Byte :=
  [t.extractLsb' 24 8, t.extractLsb' 16 8, t.extractLsb' 8 8, t.extractLsb' 0 8]

/-- A one-byte field. -/
def u8 (n : Nat) : Byte := BitVec.ofNat 8 n

/-- LEN, TYPE and BODY of a frame: the bytes its check is computed over. -/
def Frame.checked (f : Frame) : List Byte := u8 (f.body.length + 1) :: f.type :: f.body

/-- The bytes of a frame in the order sent (R154). -/
def Frame.bytes (f : Frame) : List Byte :=
  sof :: f.checked ++ be16 (crc f.checked).toNat

/-- The number of bytes of a frame on the line. -/
def Frame.length (f : Frame) : Nat := f.body.length + 5

/-- The line rate in bits per second (R167). -/
def Baud.rate : Baud → Nat
  | .b19200 => 19200
  | .b38400 => 38400
  | .b57600 => 57600
  | .b115200 => 115200

/-! ## Outcomes of a step -/

/-- The outcome type of this machine's steps. -/
abbrev Result := Host.Outcome State Fault Refusal

end Sys2Proof.Machine
end

