-- ==== Sys2Proof/Machine/Flags.lean ====
section
/-! DEFINITION. The value codes of section 10.7: how each named value, event set and flags byte stands in a body. -/

namespace Sys2Proof.Machine

/-- A flag as a byte: 0 clear, 1 set. -/
def flagByte (b : Bool) : Byte := if b then 1 else 0

/-- The byte that shows an absent number or indication. -/
def absent : Byte := 0xFF

/-- The code of an indication. -/
def Indication.byte : Indication → Byte
  | .unproven => 0x00
  | .picked => 0x01
  | .dropped => 0x02
  | .lost => 0x03
  | .conflict => 0x04
  | .steadyMade => 0x05
  | .steadyOpen => 0x06
  | .code n => u8 (0x11 + n.val)
  | .noCode => 0x1F

/-- The code of an indication field that may hold none. -/
def indicationByte : Option Indication → Byte
  | some i => i.byte
  | none => absent

/-- The expected indication a byte names, if it is one of R110's values. -/
def expectedOfByte (b : Byte) : Option Indication :=
  if b = 0x01 then some .picked
  else if b = 0x02 then some .dropped
  else if b = 0x05 then some .steadyMade
  else if b = 0x06 then some .steadyOpen
  else if h : 0x11 ≤ b.toNat ∧ b.toNat ≤ 0x18 then some (.code ⟨b.toNat - 0x11, by omega⟩)
  else none

/-- The code of a kind. -/
def Kind.byte : Kind → Byte
  | .single _ => 0
  | .pair _ => 1
  | .coded => 2

/-- The code of a sense. -/
def Sense.byte : Sense → Byte
  | .front => 0
  | .back => 1

/-- The code of a mode. -/
def Mode.byte : Mode → Byte
  | .pulseOnly => 0
  | .latchable => 1

/-- The code of an output state. -/
def OutState.byte : OutState → Byte
  | .off => 0
  | .pulsing _ => 1
  | .latched => 2
  | .faulted => 3

/-- The code of an outcome. -/
def ProofOutcome.byte : ProofOutcome → Byte
  | .proven => 1
  | .already => 2
  | .noProof => 3
  | .unproven => 4
  | .abandoned => 5
  | .driverFault => 6

/-- The code of an outcome field: 0 for none. -/
def outcomeByte : Option ProofOutcome → Byte
  | some x => x.byte
  | none => 0

/-- The code of a command kind field: 0 for none. -/
def kindByte : Option CmdKind → Byte
  | none => 0
  | some .pulse => 1
  | some .latch => 2
  | some .group => 3

/-- The code of a part state. -/
def PartState.byte : PartState → Byte
  | .loading => 0
  | .configuring => 1
  | .running => 2

/-- The code of an image status. -/
def ImageStatus.byte : ImageStatus → Byte
  | .noImage => 0
  | .imageBad => 1
  | .loaded => 2
  | .startFailed => 3

/-- The code of a ratio mode. -/
def RatioMode.byte : RatioMode → Byte
  | .strict => 0
  | .r8 => 1
  | .r4 => 2
  | .r2 => 3

/-- The ratio mode a byte names. -/
def ratioOfByte (b : Byte) : Option RatioMode :=
  if b = 0 then some .strict else if b = 1 then some .r8 else if b = 2 then some .r4
  else if b = 3 then some .r2 else none

/-- The code of a summary position. -/
def SummaryPos.byte : SummaryPos → Byte
  | .first => 0
  | .last => 1

/-- The summary position a byte names. -/
def positionOfByte (b : Byte) : Option SummaryPos :=
  if b = 0 then some .first else if b = 1 then some .last else none

/-- The code of a transit direction field. -/
def directionByte : Option Direction → Byte
  | none => 0
  | some .pickUp => 1
  | some .dropAway => 2

/-- The code of an admission (section 10.7). -/
def Admission.byte : Admission → Byte
  | .live => 0
  | .suspended => 1

/-- The code of a proof phase (section 10.7). -/
def ProofPhase.byte : ProofPhase → Byte
  | .none => 0
  | .awaitingPulseEnd => 1
  | .watching => 2

/-- The code of the selected baud rate: the row order of R167. -/
def Baud.byte : Baud → Byte
  | .b19200 => 0
  | .b38400 => 1
  | .b57600 => 2
  | .b115200 => 3

/-- The rate the straps select: bit 1 for strap 1, bit 0 for strap 0, 1 for fitted (R167). -/
def baudOfStraps (straps : BitVec 2) : Baud :=
  if straps = 0 then .b19200 else if straps = 1 then .b38400 else if straps = 2 then .b57600 else .b115200

/-- The value of an answer code (R161). -/
def AnswerCode.byte : AnswerCode → Byte
  | .accepted => 0x00
  | .acceptedClamped => 0x01
  | .wrongState => 0x10
  | .noSuch => 0x11
  | .badForm => 0x12
  | .inUse => 0x13
  | .excluded => 0x14
  | .driverFaulted => 0x15
  | .busy => 0x16
  | .overlap => 0x17
  | .badConfig => 0x18
  | .unknownType => 0x1F

/-- The bit of an event in the event set (section 10.7). -/
def Event.bit : Event → BitVec 8
  | .slow => 0x01
  | .quarantineOn => 0x02
  | .aborted => 0x04
  | .quarantineOff => 0x08
  | .degradedOn => 0x10
  | .degradedOff => 0x20
  | .serviceDue => 0x40
  | .overlap => 0x80

/-- The class of an event (section 2.6). -/
def Event.reportClass : Event → ReportClass
  | .slow | .quarantineOn => .urgent
  | .aborted | .quarantineOff | .degradedOn | .degradedOff | .serviceDue | .overlap => .routine

/-- The class of an outcome (R126). -/
def ProofOutcome.reportClass : ProofOutcome → ReportClass
  | .proven | .already | .noProof => .routine
  | .unproven | .abandoned | .driverFault => .urgent

/-- Bit i of a byte when the condition holds. -/
def bitIf (i : Nat) (b : Bool) : Byte := if b then 1#8 <<< i else 0

/-- The markers of a frame: sent from the urgent queue, a snapshot record, and beside an urgent entry (R95, R105). -/
structure Marks where
  urgent : Bool
  snapshot : Bool
  urgentPending : Bool
  deriving DecidableEq, Repr

/-- The marker bits of the report flags byte (section 10.7). -/
def Marks.byte (m : Marks) : Byte := bitIf 4 m.urgent ||| bitIf 5 m.snapshot ||| bitIf 6 m.urgentPending

/-- The object's own bits of the report flags byte: quarantined, suspended, degraded, unproven (section 10.7). -/
def Obj.flags (o : Obj) : Byte :=
  bitIf 0 o.quarantined ||| bitIf 1 (decide (o.admission = .suspended)) ||| bitIf 2 o.degraded
    ||| bitIf 3 (decide (o.evaluated = .shown .unproven))

/-- The quarantined and degraded bits alone (R37). -/
def Obj.flagsOfR37 (o : Obj) : Byte := bitIf 0 o.quarantined ||| bitIf 2 o.degraded

/-- The part events byte of a part report (section 10.7); bits 3 to 7 are 0 (log 36). -/
def PartEvents.byte (p : PartEvents) : Byte :=
  bitIf 0 p.deskSilence ||| bitIf 1 p.imageStored ||| bitIf 2 p.imageFailed

/-! ## The lamps (R174) -/

/-- The RUN lamp is lit at this moment: steadily in RUNNING, in the lit half period in CONFIGURING. -/
def State.runLamp (s : State) : Bool :=
  !s.inReset && (match s.partState with
    | .running => true
    | .configuring => s.flashLit
    | .loading => false)

/-- The LINK lamp is lit. -/
def State.linkLamp (s : State) : Bool := !s.inReset && s.goodFrame && !s.deskSilent

/-- The ALARM lamp is lit. -/
def State.alarmLamp (s : State) : Bool :=
  !s.inReset && (decide (0 < s.faultedOutputs) || (List.finRange 16).any (fun g => (s.group g).refFault)
    || !s.urgent.isEmpty)

end Sys2Proof.Machine
end

