-- ==== Sys2Proof/Machine/Operands.lean ====
section
/-! DEFINITION. The operands of the control messages: each body read by the layout of section 10.7, none for a body
of another length, and the clamping of numeric fields. -/

namespace Sys2Proof.Machine

/-- Two bytes of a body as one field, high byte first (R154). -/
def word (hi lo : Byte) : Word16 := hi ++ lo

/-- The i-th optional field of a message is marked present (section 10.7). -/
def present (presence : Byte) (i : Nat) : Bool := presence.getLsbD i

/-- A value after clamping, and whether it was moved. -/
structure Clamped where
  value : Nat
  moved : Bool
  deriving DecidableEq, Repr

/-- A numeric field moved to its range (section 0.6). -/
def clampField (lo hi x : Nat) : Clamped := { value := clamp lo hi x, moved := decide (clamp lo hi x ≠ x) }

/-- A chatter limit: 0 stays 0, 1 is taken as 2, above 60 as 60 (R18). -/
def clampChatter (x : Nat) : Clamped := if x = 0 then { value := 0, moved := false } else clampField 2 60 x

/-- The desk tag (R18, R111). -/
def clampTag (x : Word16) : Clamped := clampField 0 4095 x.toNat

/-- The transit limit (R18). -/
def clampTransit (x : Word16) : Clamped := clampField 20 5000 x.toNat

/-- The steady timeout (R18). -/
def clampSteady (x : Word16) : Clamped := clampField 200 10000 x.toNat

/-- The pulse length (R111). -/
def clampPulse (x : Word16) : Clamped := clampField 20 10000 x.toNat

/-- The proving time (R111). -/
def clampProving (x : Word16) : Clamped := clampField 100 60000 x.toNat

/-- An accepted answer code: clamped when a field was moved (R161). -/
def acceptedCode (moved : Bool) : AnswerCode := if moved then .acceptedClamped else .accepted

/-- The flag an option byte names: 0 clear or off, 1 set or on, none for another value (log 15). -/
def flagOfByte (b : Byte) : Option Bool := if b = 0 then some false else if b = 1 then some true else none

/-- Define Object: 16 bytes. -/
def parseDefineObject : List Byte → Option ObjectForm
  | [num, kind, a, b, sense, t1, t0, urgent, pres, l1, l0, ch, s1, s0, v1, v0] =>
    some { number := num, kind := kind, pointA := a, pointB := b, sense := sense, tag := word t1 t0,
           urgent := urgent, presence := pres, transitMs := word l1 l0, chatterLimit := ch,
           steadyMs := word s1 s0, service := word v1 v0 }
  | _ => none

/-- Define Output: 12 bytes. -/
def parseDefineOutput : List Byte → Option OutputForm
  | [num, t1, t0, mode, pres, partner, proving, expected, p1, p0, q1, q0] =>
    some { number := num, tag := word t1 t0, mode := mode, presence := pres, partner := partner,
           proving := proving, expected := expected, pulseMs := word p1 p0, provingMs := word q1 q0 }
  | _ => none

/-- Slot i of a Set Bands body: presence, minimum, maximum. DEDUCED that bit 0 of its presence byte marks it
(log 16). -/
def bandSlot (body : List Byte) (i : Fin 8) : BandForm :=
  match body.drop (5 * i.val) with
  | p :: a1 :: a0 :: b1 :: b0 :: _ => if present p 0 then some (word a1 a0, word b1 b0) else none
  | _ => none

/-- Set Bands: 40 bytes. -/
def parseSetBands (body : List Byte) : Option (Vector BandForm 8) :=
  if body.length = 40 then some (Vector.ofFn (bandSlot body)) else none

/-- Set Group: 5 bytes, with a survey enable that names off or on. -/
def parseSetGroup : List Byte → Option (Byte × GroupForm)
  | [g, f, e, r1, r0] => (flagOfByte e).map fun on => (g, { filterMs := f, survey := on, refRes := word r1 r0 })
  | _ => none

/-- Set Part Timing: 8 bytes, the presence byte first. -/
def parseSetPartTiming : List Byte → Option (Byte × TimingForm)
  | [pres, a1, a0, c1, c0, w, d1, d0] =>
    some (pres, { settleInMs := word a1 a0, conflictMs := word c1 c0, windowS := w, silenceMs := word d1 d0 })
  | _ => none

/-- Set Survey: 7 bytes, the presence byte first. -/
def parseSetSurvey : List Byte → Option (Byte × SurveyForm)
  | [pres, i1, i0, d1, d0, c1, c0] =>
    some (pres, { intervalMs := word i1 i0, degrade := word d1 d0, clear := word c1 c0 })
  | _ => none

/-- The body of an Adjust Object. -/
structure AdjustObjectForm where
  number : Byte
  presence : Byte
  transitMs : Word16
  chatterLimit : Byte
  steadyMs : Word16
  service : Word16
  urgent : Byte
  deriving DecidableEq, Repr

/-- Adjust Object: 10 bytes. -/
def parseAdjustObject : List Byte → Option AdjustObjectForm
  | [num, pres, l1, l0, ch, s1, s0, v1, v0, urgent] =>
    some { number := num, presence := pres, transitMs := word l1 l0, chatterLimit := ch, steadyMs := word s1 s0,
           service := word v1 v0, urgent := urgent }
  | _ => none

/-- The body of an Adjust Output. -/
structure AdjustOutputForm where
  number : Byte
  presence : Byte
  pulseMs : Word16
  provingMs : Word16
  deriving DecidableEq, Repr

/-- Adjust Output: 6 bytes. -/
def parseAdjustOutput : List Byte → Option AdjustOutputForm
  | [num, pres, p1, p0, q1, q0] =>
    some { number := num, presence := pres, pulseMs := word p1 p0, provingMs := word q1 q0 }
  | _ => none

/-- Group Pulse: 7 bytes; the members named (slots beyond the count are ignored) and the pulse length. A count
outside 2 to 4 or a member named twice is refused with BAD_FORM (R119). -/
def parseGroupPulse : List Byte → Option (List Byte × Word16)
  | [count, m1, m2, m3, m4, p1, p0] =>
    let members := [m1, m2, m3, m4].take count.toNat
    if 2 ≤ count.toNat ∧ count.toNat ≤ 4 ∧ members.Nodup then some (members, word p1 p0) else none
  | _ => none

end Sys2Proof.Machine
end

