-- ==== Sys2Proof/Machine/Proving.lean ====
section
/-! DEFINITION. The outcome records of the outputs and the proving unit (sections 7.7, 7.11 and 8). -/

namespace Sys2Proof.Machine

/-! ## Outcomes -/

/-- The outcome record after a posting: a posting over an unsent outcome counts one lost (R127). -/
def OutcomeRec.post (r : OutcomeRec) (x : ProofOutcome) (p : Proof) (time : Nat) : OutcomeRec :=
  { outcome := some x, kind := p.kind, start := p.start, time := time, unsent := true,
    lost := if r.unsent then satInc 255 r.lost else r.lost }

/-- Post the outcome of a proof to its output's record and request an entry of the outcome's class (R127, R128). -/
def postOutcome (i : OutId) (x : ProofOutcome) (p : Proof) (time : Nat) (s : State) : State :=
  match s.output i with
  | some out => request (.output i) x.reportClass (s.setOutput i { out with result := out.result.post x p time })
  | none => s

/-- A proof is in flight (R131). -/
def Proof.inFlight (p : Proof) : Bool := decide (p.phase ≠ .none)

/-- A proof record whose proof has ended; the other fields are kept (R131). -/
def Proof.ended (p : Proof) : Proof := { p with phase := .none, deadline := none }

/-- A proof in flight ends with an outcome; where none is in flight nothing is done (R139, R140). -/
def endProof (i : OutId) (x : ProofOutcome) (time : Nat) (s : State) : State :=
  if (s.proof i).inFlight then postOutcome i x (s.proof i) time (s.setProof i (s.proof i).ended) else s

/-! ## Starting a proof -/

/-- The indication an object shows outside the evaluator: TRANSIT and CONFLICT-PENDING show the origin (R60). -/
def Obj.shown (o : Obj) : Indication :=
  match o.evaluated, o.origin with
  | .shown i, _ => i
  | _, some .picked => .picked
  | _, some .dropped => .dropped
  | _, none => .unproven

/-- The course of a new proof (R133). -/
inductive ProofCourse where
  | noObject | already | watch
  deriving DecidableEq, Repr

/-- The first test of R133 that applies. An UNPROVEN object matches no expected indication. -/
def proofCourse (s : State) (object : Option ObjId) (expected : Option Indication) : ProofCourse :=
  match object.bind s.object with
  | none => .noObject
  | some o =>
    if o.admission = .suspended then .noObject
    else if some o.shown = expected ∧ o.shown ≠ .unproven then .already
    else .watch

/-- The record a new proof fills (R131, R133). -/
def newProof (s : State) (out : Output) (kind : CmdKind) : Proof :=
  let blank : Proof := { phase := .none, kind := some kind, start := s.clock, object := out.cfg.proving,
                         expected := out.cfg.expected, deadline := none }
  match proofCourse s out.cfg.proving out.cfg.expected, kind with
  | .watch, _ => { blank with phase := .watching, deadline := some (after s.clock (msUnits out.cfg.provingMs)) }
  | .noObject, .pulse | .noObject, .group => { blank with phase := .awaitingPulseEnd }
  | .noObject, .latch | .already, _ => blank

/-- The outcome a new proof ends with at its start, if it ends there (R133). -/
def outcomeAtStart (course : ProofCourse) (kind : CmdKind) : Option ProofOutcome :=
  match course, kind with
  | .already, _ => some .already
  | .noObject, .latch => some .noProof
  | _, _ => none

/-- The proof of an energising command: one in flight ends ABANDONED first (R120), then the new one is filled and
takes its course (R133). -/
def startProof (i : OutId) (kind : CmdKind) (s0 : State) : State :=
  let s := endProof i .abandoned 0 s0
  match s.output i with
  | none => s
  | some out =>
    let p := newProof s out kind
    let t := s.setProof i p
    match outcomeAtStart (proofCourse s out.cfg.proving out.cfg.expected) kind with
    | some x => postOutcome i x p 0 t
    | none => t

/-! ## Watching -/

/-- The proof of output i is watching object n for the indication v (R135). -/
def watches (s : State) (n : ObjId) (v : Indication) (i : OutId) : Bool :=
  decide ((s.proof i).phase = .watching ∧ (s.proof i).object = some n ∧ (s.proof i).expected = some v)

/-- A committed change into the expected indication, with its change time, ends a watching proof (R135). -/
def proveChange (t : Time) (s : State) (i : OutId) : State :=
  let start := (s.proof i).start
  if precedes t start then endProof i .already 0 s
  else endProof i .proven (sat16 (interval start t)) s

/-- The outputs whose proofs a committed change of object n into v ends, in the order they are taken (R140 gives
none; log 13). -/
def proversOf (s : State) (n : ObjId) (v : Indication) : List OutId :=
  freeOrder 64 s.free ((List.finRange 64).filter (watches s n v))

/-- The proving unit is handed a committed change (R20 step one, R135, R140). -/
def notifyProofs (n : ObjId) (v : Indication) (t : Time) (s : State) : State :=
  let who := proversOf s n v
  who.foldl (proveChange t) { s with free := s.free + who.length }

/-- The pulse of an output has ended: a proof awaiting it ends NO_PROOF (R134). -/
def proofPulseEnd (i : OutId) (s : State) : State :=
  if (s.proof i).phase = .awaitingPulseEnd then endProof i .noProof 0 s else s

/-- The deadline of a watching proof has been reached (R136). -/
def proofDue (s : State) (i : OutId) : Bool :=
  decide ((s.proof i).phase = .watching) && deadlineReached (s.proof i).deadline s.clock

end Sys2Proof.Machine
end

