-- ==== Sys2Proof/Machine/Objects.lean ====
section
/-! DEFINITION. What one event does to an indication object: events, committed changes, the chatter limiter's test and
the operation count (sections 2 and 5), and the step's effect on the rest of the module. -/

namespace Sys2Proof.Machine

/-- An object in the course of one event: the record so far, the most urgent reason for a report (R32), and the
committed change the proving unit is handed (R20). -/
structure ObjStep where
  obj : Obj
  reason : Option ReportClass
  change : Option (Indication × Time)
  deriving DecidableEq, Repr

/-- The start of an event at an object. -/
def Obj.begin (o : Obj) : ObjStep := { obj := o, reason := none, change := none }

/-- Replace the record in a step. -/
def ObjStep.map (f : Obj → Obj) (p : ObjStep) : ObjStep := { p with obj := f p.obj }

/-- Raise an event: it becomes pending and is a reason of its class (R31, R32). -/
def ObjStep.raise (e : Event) (p : ObjStep) : ObjStep :=
  { p with obj := { p.obj with events := p.obj.events ||| e.bit },
           reason := joinReason p.reason (some e.reportClass) }

/-- The class of a change of the reported indication into a value (R21). -/
def changeClass (o : Obj) (v : Indication) : ReportClass :=
  if v = .lost ∨ v = .conflict ∨ v = .noCode ∨ o.cfg.urgent = true then .urgent else .routine

/-- The reported indication takes a value, which is a reason for a report (R20 step four). -/
def ObjStep.follow (v : Indication) (p : ObjStep) : ObjStep :=
  { p with obj := { p.obj with reported := v }, reason := joinReason p.reason (some (changeClass p.obj v)) }

/-- The chatter limiter counts the change and lets the reported indication follow, or holds it; a count above the
limit in force begins a quarantine (R82, R84, R85). -/
def ObjStep.offer (v : Indication) (p : ObjStep) : ObjStep :=
  let o := { p.obj with windowCount := satInc 255 p.obj.windowCount }
  if o.quarantined then { p with obj := o }
  else if o.cfg.chatterLimit ≠ 0 ∧ o.cfg.chatterLimit < o.windowCount then
    ({ p with obj := { o with quarantined := true } } : ObjStep).raise .quarantineOn
  else ({ p with obj := o } : ObjStep).follow v

/-- SERVICE_DUE is raised when the threshold is not 0, has been reached and the latch is clear (R30). -/
def ObjStep.serviceTest (p : ObjStep) : ObjStep :=
  if p.obj.cfg.service ≠ 0 ∧ p.obj.cfg.service ≤ p.obj.opCount ∧ p.obj.serviceLatch = false then
    (p.map fun o => { o with serviceLatch := true }).raise .serviceDue
  else p

/-- The rest state an indication is, if it is one. -/
def Indication.rest : Indication → Option Rest
  | .picked => some .picked
  | .dropped => some .dropped
  | _ => none

/-- The indication of a rest state. -/
def Rest.indication : Rest → Indication
  | .picked => .picked
  | .dropped => .dropped

/-- The other rest state. -/
def Rest.opposite : Rest → Rest
  | .picked => .dropped
  | .dropped => .picked

/-- The object counts operations: it is SINGLE or PAIR (R29). -/
def Obj.counts (o : Obj) : Bool := decide (o.cfg.kind ≠ .coded)

/-- The settled indication after taking a value (R29). -/
def Obj.settle (v : Indication) (o : Obj) : Obj :=
  if o.counts then { o with settled := v.rest.or o.settled } else o

/-- A committed change into PICKED from a settled DROPPED is an operation; the settled indication then takes the value
(R29, R30). -/
def ObjStep.operation (v : Indication) (p : ObjStep) : ObjStep :=
  let q := if p.obj.counts = true ∧ v = .picked ∧ p.obj.settled = some .dropped then
      (p.map fun o => { o with opCount := satInc 65535 o.opCount }).serviceTest
    else p
  q.map (Obj.settle v)

/-- The record fields a committed change sets first: the evaluated indication, the last change time and the changes
since report (R20 steps one and two, R22). -/
def Obj.setChange (v : Indication) (t : Time) (o : Obj) : Obj :=
  { o with evaluated := .shown v, lastChange := t, changes := satInc 255 o.changes }

/-- A committed change with its change time (R20). -/
def ObjStep.commit (v : Indication) (t : Time) (p : ObjStep) : ObjStep :=
  let q : ObjStep := { p with obj := p.obj.setChange v t, change := some (v, t) }
  (q.offer v).operation v

/-- The object leaves UNPROVEN with a value: not offered to the chatter limiter and not an operation; the settled
indication is set, and the origin of a PAIR that takes a rest state (R25, R26). -/
def ObjStep.leaveUnproven (v : Indication) (t : Time) (p : ObjStep) : ObjStep :=
  let o := Obj.settle v { p.obj.setChange v t with settleDeadline := none }
  let o1 := match o.cfg.kind with
    | .pair _ => { o with origin := v.rest.or o.origin }
    | .single _ | .coded => o
  ({ obj := o1, reason := p.reason, change := some (v, t) } : ObjStep).follow v

/-- The effect of an event at object n on the module: its record, then the proving unit, then the one request (R20,
R32; log 28). -/
def applyStep (n : ObjId) (p : ObjStep) (s : State) : State :=
  let s1 := s.setObject n p.obj
  let s2 := match p.change with
    | some (v, t) => notifyProofs n v t s1
    | none => s1
  match p.reason with
  | some c => request (.object n) c s2
  | none => s2

/-- An object that is LIVE, with its record. -/
def State.live (s : State) (n : ObjId) : Option Obj :=
  match s.object n with
  | some o => if o.admission = .live then some o else none
  | none => none

/-! ## The end of settle-in -/

/-- The indication an object's filtered levels give (R25). -/
def classify (s : State) (o : Obj) : Indication :=
  match o.cfg.kind, (s.point o.cfg.pointA).filtered with
  | .single .front, .made | .single .back, .opn => .picked
  | .single .front, .opn | .single .back, .made => .dropped
  | .coded, .made => .steadyMade
  | .coded, .opn => .steadyOpen
  | .pair b, .made => match (s.point b).filtered with
    | .opn => .picked
    | .made => .conflict
  | .pair b, .opn => match (s.point b).filtered with
    | .made => .dropped
    | .opn => .lost

/-- The period ring emptied and the pending candidate cleared (R66, R74). -/
def CodeRec.emptied (c : CodeRec) : CodeRec := { c with anchor := none, periods := [], candidate := none }

/-- An UNPROVEN object's settle-in deadline has been reached in RUNNING (R25). -/
def settleDue (s : State) (n : ObjId) : Bool :=
  decide (s.partState = .running) &&
  (match s.live n with
    | some o => decide (o.evaluated = .shown .unproven) && deadlineReached o.settleDeadline s.clock
    | none => false)

/-- What the end of settle-in does to the object (R25). -/
def settleStep (s : State) (o : Obj) : ObjStep :=
  let p := o.begin.leaveUnproven (classify s o) s.clock
  match o.cfg.kind with
  | .coded => p.map fun x => { x with code := x.code.emptied }
  | .single _ | .pair _ => p

/-- The settle-in deadline is reached (R25). -/
def settleIn (n : ObjId) (s : State) : State :=
  match s.live n with
  | some o => applyStep n (settleStep s o) s
  | none => s

/-! ## The chatter window -/

/-- The next boundary has been reached in RUNNING (R81). -/
def boundaryDue (s : State) : Bool :=
  decide (s.partState = .running) && deadlineReached (s.window.map Window.next) s.clock

/-- A quarantined object is released: the reported indication takes the evaluated one, or the origin that stands for
it, and QUARANTINE_OFF is raised; the change is a reason only where the reported indication moved (R87). -/
def ObjStep.release (p : ObjStep) : ObjStep :=
  let q := (p.map fun o => { o with quarantined := false }).raise .quarantineOff
  if p.obj.shown = p.obj.reported then q else q.follow p.obj.shown

/-- Step 1 of R86: a staged chatter limit becomes the limit in force. -/
def Obj.applyChatter (o : Obj) : Obj :=
  match o.staged.chatter with
  | some l => { o with cfg := { o.cfg with chatterLimit := l }, staged := { o.staged with chatter := none } }
  | none => o

/-- The release test of step 2 of R86. -/
def Obj.releasable (o : Obj) : Bool :=
  o.quarantined && (decide (o.cfg.chatterLimit = 0) || decide (o.windowCount ≤ o.cfg.chatterLimit / 2))

/-- What a boundary does to one object (R86). -/
def boundaryStep (o : Obj) : ObjStep :=
  let o1 := o.applyChatter
  let p := if o1.releasable then o1.begin.release else o1.begin
  p.map fun x => { x with windowCount := 0 }

/-- What a boundary does at one object's place. -/
def boundaryAt (s : State) (n : ObjId) : State :=
  match s.object n with
  | some o => applyStep n (boundaryStep o) s
  | none => s

/-- The window closed and the next opened: it starts at the boundary's value (R81). -/
def Window.advance (w : Window) (units : Nat) : Window := { start := w.next, next := after w.next units }

/-- The chatter window length in clock units (R80). -/
def State.windowUnits (s : State) : Nat := s.timing.windowS * 10000

/-- A boundary of the chatter window, object by object in ascending number (R81, R86). -/
def boundary (s : State) : State :=
  (List.finRange 128).foldl boundaryAt { s with window := s.window.map fun w => w.advance s.windowUnits }

end Sys2Proof.Machine
end

