-- ==== Sys2Proof/Machine/Pairs.lean ====
section
/-! DEFINITION. The single-contact and contact-pair evaluators (sections 2.4 and 3). -/

namespace Sys2Proof.Machine

/-! ## Single contacts -/

/-- The indication a SINGLE object's contact gives at a level (R28). -/
def singleIndication (sense : Sense) (level : Level) : Indication :=
  match sense, level with
  | .front, .made | .back, .opn => .picked
  | .front, .opn | .back, .made => .dropped

/-! ## Contact pairs -/

/-- A staged transit limit replaces the one in force (R41, R52). -/
def Obj.applyTransit (o : Obj) : Obj :=
  match o.staged.transit with
  | some l => { o with cfg := { o.cfg with transitMs := l }, staged := { o.staged with transit := none } }
  | none => o

/-- The transit and conflict fields become none; the recorded times stay. -/
def PairRec.idle (r : PairRec) : PairRec :=
  { r with transitStart := none, transitDeadline := none, conflictStart := none, conflictDeadline := none }

/-- The transit deadline of a PAIR in TRANSIT is reached: LOST is committed at the deadline; origin and transit start
stay as the transit memory (R44). -/
def transitExpiry (deadline : Time) (p : ObjStep) : ObjStep :=
  (p.map fun o => { o with pair := { o.pair with transitDeadline := none } }).commit .lost deadline

/-- The conflict deadline of a PAIR in CONFLICT-PENDING is reached: CONFLICT is committed at the deadline (R55). -/
def conflictExpiry (deadline : Time) (p : ObjStep) : ObjStep :=
  (p.map fun o => { o with
    origin := none
    pair := { o.pair with conflictStart := none, conflictDeadline := none } }).commit .conflict deadline

/-- The contact of the rest state opens: a transit begins, with the filter time of the completing contact's group in
its deadline (R41); a deadline already reached is taken at once (R42). -/
def beginTransit (rest : Rest) (filterUnits : Nat) (cap now : Time) (o : Obj) : ObjStep :=
  let o1 := o.applyTransit
  let d := after cap (msUnits o1.cfg.transitMs + filterUnits)
  let p := ({ o1 with evaluated := .transit, origin := some rest,
                      pair := { o1.pair with transitStart := some cap, transitDeadline := some d } } : Obj).begin
  if reached d now then transitExpiry d p else p

/-- The opposite contact makes: CONFLICT-PENDING begins (R52); a deadline already reached is taken at once. -/
def beginConflict (rest : Rest) (delayUnits : Nat) (cap now : Time) (o : Obj) : ObjStep :=
  let o1 := o.applyTransit
  let d := after cap delayUnits
  let p := ({ o1 with evaluated := .conflictPending, origin := some rest,
                      pair := { o1.pair with conflictStart := some cap, conflictDeadline := some d } } : Obj).begin
  if reached d now then conflictExpiry d p else p

/-- The transit time is recorded in its direction, and the transit and conflict fields become none (R45). -/
def PairRec.record (r : PairRec) (toward : Rest) (units : Nat) : PairRec :=
  match toward with
  | .dropped => { r.idle with lastDropAway := sat16 units, lastDir := some .dropAway }
  | .picked => { r.idle with lastPickUp := sat16 units, lastDir := some .pickUp }

/-- The transit time of a transfer: 0 where the making precedes the opening (R45). -/
def transitTime (opening making : Time) : Nat := if precedes making opening then 0 else interval opening making

/-- OVERLAP or SLOW, as the opening and making times give (R45). -/
def ObjStep.transferEvents (opening making : Time) (p : ObjStep) : ObjStep :=
  if precedes making opening then p.raise .overlap
  else if msUnits p.obj.cfg.transitMs < interval opening making then p.raise .slow
  else p

/-- A transfer from the origin to the opposite indication (R45), with the opening and making times and the capture
time of the edge that produced it. -/
def transfer (origin : Rest) (opening making cap : Time) (o : Obj) : ObjStep :=
  let toward := origin.opposite
  ((o.begin.transferEvents opening making).map fun x => { x with
    origin := some toward
    pair := x.pair.record toward (transitTime opening making) }).commit toward.indication cap

/-- The origin contact makes again in TRANSIT: back to the origin with ABORTED, not a committed change (R47). -/
def abortTransit (rest : Rest) (o : Obj) : ObjStep :=
  ({ o with evaluated := .shown rest.indication,
            pair := { o.pair with transitStart := none, transitDeadline := none } } : Obj).begin.raise .aborted

/-- The origin contact makes in LOST with a transit memory: the origin is committed, with ABORTED (R50). -/
def lostReturn (rest : Rest) (cap : Time) (o : Obj) : ObjStep :=
  ((o.begin.map fun x => { x with pair := x.pair.idle }).raise .aborted).commit rest.indication cap

/-- A commitment to a rest state that becomes the origin, with no transit time and no event (R51, R57). -/
def commitRest (rest : Rest) (cap : Time) (o : Obj) : ObjStep :=
  (o.begin.map fun x => { x with origin := some rest, pair := x.pair.idle }).commit rest.indication cap

/-- The opposite contact opens again in CONFLICT-PENDING: a silent return to the origin (R54). -/
def conflictReturn (rest : Rest) (o : Obj) : ObjStep :=
  ({ o with evaluated := .shown rest.indication,
            pair := { o.pair with conflictStart := none, conflictDeadline := none } } : Obj).begin

/-- The rest state whose contact this is: the front contact for PICKED, the back contact for DROPPED. -/
def contactRest (front : Bool) : Rest := if front then .picked else .dropped

/-- What the pair evaluator needs besides the object: the filter times of the groups of points A and B, the conflict
delay, all in clock units, and the present count. -/
structure PairTimes where
  filterA : Nat
  filterB : Nat
  delay : Nat
  now : Time
  deriving DecidableEq, Repr

/-- The filter time of the contact that completes a movement from a rest state (R41). -/
def PairTimes.completing (k : PairTimes) : Rest → Nat
  | .picked => k.filterB
  | .dropped => k.filterA

/-- An edge at a resting PAIR object (R41, R52); the other edges cannot arise there (section 3.6). -/
def restEdge (k : PairTimes) (rest : Rest) (front : Bool) (level : Level) (cap : Time) (o : Obj) : ObjStep :=
  match level with
  | .opn => if contactRest front = rest then beginTransit rest (k.completing rest) cap k.now o else o.begin
  | .made => if contactRest front = rest then o.begin else beginConflict rest k.delay cap k.now o

/-- An edge at a PAIR object in TRANSIT (R46, R47). -/
def transitEdge (front : Bool) (level : Level) (cap : Time) (o : Obj) : ObjStep :=
  match level, o.origin, o.pair.transitStart with
  | .made, some rest, some start =>
    if contactRest front = rest then abortTransit rest o else transfer rest start cap cap o
  | _, _, _ => o.begin

/-- An edge at a PAIR object in LOST (R49 to R51). -/
def lostEdge (front : Bool) (level : Level) (cap : Time) (o : Obj) : ObjStep :=
  match level, o.origin, o.pair.transitStart with
  | .made, some rest, some start =>
    if contactRest front = rest then lostReturn rest cap o else transfer rest start cap cap o
  | .made, _, _ => commitRest (contactRest front) cap o
  | .opn, _, _ => o.begin

/-- An edge at a PAIR object in CONFLICT-PENDING (R53, R54). -/
def pendingEdge (front : Bool) (level : Level) (cap : Time) (o : Obj) : ObjStep :=
  match level, o.origin, o.pair.conflictStart with
  | .opn, some rest, some start =>
    if contactRest front = rest then transfer rest cap start cap o else conflictReturn rest o
  | _, _, _ => o.begin

/-- An edge at a PAIR object in CONFLICT: the contact that remains made is committed (R57). -/
def conflictEdge (front : Bool) (level : Level) (cap : Time) (o : Obj) : ObjStep :=
  match level with
  | .opn => commitRest (contactRest front).opposite cap o
  | .made => o.begin

/-- An edge at a PAIR object that has left UNPROVEN (section 3.6). -/
def pairEdge (k : PairTimes) (front : Bool) (level : Level) (cap : Time) (o : Obj) : ObjStep :=
  match o.evaluated with
  | .shown .picked => restEdge k .picked front level cap o
  | .shown .dropped => restEdge k .dropped front level cap o
  | .transit => transitEdge front level cap o
  | .shown .lost => lostEdge front level cap o
  | .conflictPending => pendingEdge front level cap o
  | .shown .conflict => conflictEdge front level cap o
  | .shown .unproven | .shown .steadyMade | .shown .steadyOpen | .shown (.code _) | .shown .noCode => o.begin

/-! ## The deadlines of a pair -/

/-- The transit deadline of a LIVE PAIR in TRANSIT has been reached (R44). -/
def transitDue (s : State) (n : ObjId) : Bool :=
  decide (s.partState = .running) &&
  (match s.live n with
    | some o => decide (o.evaluated = .transit) && deadlineReached o.pair.transitDeadline s.clock
    | none => false)

/-- The transit deadline is reached (R44). -/
def transitExpired (n : ObjId) (s : State) : State :=
  match s.live n with
  | some o => match o.pair.transitDeadline with
    | some d => applyStep n (transitExpiry d o.begin) s
    | none => s
  | none => s

/-- The conflict deadline of a LIVE PAIR in CONFLICT-PENDING has been reached (R55). -/
def conflictDue (s : State) (n : ObjId) : Bool :=
  decide (s.partState = .running) &&
  (match s.live n with
    | some o => decide (o.evaluated = .conflictPending) && deadlineReached o.pair.conflictDeadline s.clock
    | none => false)

/-- The conflict deadline is reached (R55). -/
def conflictExpired (n : ObjId) (s : State) : State :=
  match s.live n with
  | some o => match o.pair.conflictDeadline with
    | some d => applyStep n (conflictExpiry d o.begin) s
    | none => s
  | none => s

end Sys2Proof.Machine
end

