-- ==== Sys2Proof/Machine/Coded.lean ====
section
/-! DEFINITION. The code detector (section 4): bands, rate, duty, the period ring, hysteresis and the steady timing. -/

namespace Sys2Proof.Machine

/-- A rate lies in a band (R63). -/
def Band.holds (b : Band) (rate : Nat) : Bool := decide (b.min ≤ rate ∧ rate ≤ b.max)

/-- The classification of a rate: CODE_n for the band it lies in, NO_CODE for none (R63). -/
def classifyRate (bands : Vector (Option Band) 8) (rate : Nat) : Indication :=
  match (List.finRange 8).find? fun i => (bands.get i).any fun b => b.holds rate with
  | some i => .code i
  | none => .noCode

/-- The mean of four periods, rounded to the nearest unit with a half rounded up (R64). -/
def meanPeriod (periods : List Nat) : Nat := (periods.sum + 2) / 4

/-- The rate of a mean period in codes per minute, within 1 to 999 (R64). -/
def rateOfMean (mean : Nat) : Nat := clamp 1 999 ((600000 + mean / 2) / mean)

/-- The rate computed from the four periods in the ring (R64). -/
def codeRate (periods : List Nat) : Nat := rateOfMean (meanPeriod periods)

/-- The duty of a cycle in per cent (R65). -/
def duty (onTime period : Nat) : Nat := min ((100 * onTime + period / 2) / period) 100

/-- The most recent four of a list of periods (R69). -/
def lastFour (periods : List Nat) : List Nat := periods.drop (periods.length - 4)

/-- A MADE edge that closes a period: the ring, the duty and the anchor (R69). -/
def CodeRec.close (c : CodeRec) (anchor cap : Time) : CodeRec :=
  { c with periods := lastFour (c.periods ++ [interval anchor cap]),
           lastDuty := duty c.lastOnTime (interval anchor cap),
           anchor := some cap }

/-- A commitment by the detector: out of UNPROVEN with a new steady deadline, or an ordinary committed change (R26,
R72). -/
def codeCommit (c : Indication) (cap now : Time) (o : Obj) : ObjStep :=
  if o.evaluated = .shown .unproven then
    (o.begin.leaveUnproven c cap).map fun x =>
      { x with code := { x.code with steadyDeadline := some (after now (msUnits x.cfg.steadyMs)) } }
  else o.begin.commit c cap

/-- The hysteresis over a candidate (R71). -/
def hysteresis (c : Indication) (cap now : Time) (o : Obj) : ObjStep :=
  if o.evaluated = .shown c then ({ o with code := { o.code with candidate := none } } : Obj).begin
  else if o.code.candidate = some c then
    codeCommit c cap now { o with code := { o.code with candidate := none } }
  else ({ o with code := { o.code with candidate := some c } } : Obj).begin

/-- An evaluation at a MADE edge: the rate, the candidate and the hysteresis (R70, R71). -/
def evaluate (bands : Vector (Option Band) 8) (cap now : Time) (o : Obj) : ObjStep :=
  let rate := codeRate o.code.periods
  hysteresis (classifyRate bands rate) cap now { o with code := { o.code with lastRate := rate } }

/-- A MADE edge handed to the detector (R69). -/
def detectMade (bands : Vector (Option Band) 8) (cap now : Time) (o : Obj) : ObjStep :=
  match o.code.anchor with
  | none => ({ o with code := { o.code with anchor := some cap } } : Obj).begin
  | some a =>
    let o1 := { o with code := o.code.close a cap }
    if o1.code.periods.length = 4 then evaluate bands cap now o1 else o1.begin

/-- An OPEN edge handed to the detector (R68). -/
def detectOpen (cap : Time) (o : Obj) : ObjStep :=
  match o.code.anchor with
  | none => o.begin
  | some a => ({ o with code := { o.code with lastOnTime := interval a cap } } : Obj).begin

/-- A staged steady timeout becomes the one in force (R67, R76). -/
def Obj.applySteady (o : Obj) : Obj :=
  match o.staged.steady with
  | some l => { o with cfg := { o.cfg with steadyMs := l }, staged := { o.staged with steady := none } }
  | none => o

/-- The timing an edge restarts at a CODED object: settle-in while UNPROVEN, the steady timing after it (R67). -/
def Obj.restartCode (settleUnits : Nat) (now : Time) (o : Obj) : Obj :=
  if o.evaluated = .shown .unproven then { o with settleDeadline := some (after now settleUnits) }
  else { o with code := { o.code with steadyDeadline := some (after now (msUnits o.cfg.steadyMs)) } }

/-- An accepted edge at a CODED object (R67 to R69). -/
def codedEdge (bands : Vector (Option Band) 8) (settleUnits : Nat) (level : Level) (cap now : Time) (o : Obj) :
    ObjStep :=
  let o1 := o.applySteady.restartCode settleUnits now
  match level with
  | .made => detectMade bands cap now o1
  | .opn => detectOpen cap o1

/-! ## The steady deadline -/

/-- The steady deadline of a LIVE CODED object has been reached (R74). -/
def steadyDue (s : State) (n : ObjId) : Bool :=
  decide (s.partState = .running) &&
  (match s.live n with
    | some o => decide (o.cfg.kind = .coded) && deadlineReached o.code.steadyDeadline s.clock
    | none => false)

/-- The steady indication of a level. -/
def steadyIndication : Level → Indication
  | .made => .steadyMade
  | .opn => .steadyOpen

/-- What a steady expiry does to the object: the ring is emptied, and the steady value is committed where it is not
held already (R74). -/
def steadyStep (level : Level) (deadline : Time) (o : Obj) : ObjStep :=
  let o1 := { o with code := { o.code.emptied with steadyDeadline := none } }
  if o.evaluated = .shown (steadyIndication level) then o1.begin
  else o1.begin.commit (steadyIndication level) deadline

/-- The steady deadline is reached; the level of the last edge taken is the filtered level of point A (R74, R14). -/
def steadyExpired (n : ObjId) (s : State) : State :=
  match s.live n with
  | some o => match o.code.steadyDeadline with
    | some d => applyStep n (steadyStep (s.point o.cfg.pointA).filtered d o) s
    | none => s
  | none => s

/-! ## The delivery of an accepted edge -/

/-- The filter times and the conflict delay a PAIR object with these points is evaluated with. -/
def State.pairTimes (s : State) (a b : PointId) : PairTimes :=
  { filterA := s.filterUnits a, filterB := s.filterUnits b, delay := msUnits s.timing.conflictMs, now := s.clock }

/-- The settle-in time in clock units (R23). -/
def State.settleUnits (s : State) : Nat := msUnits s.timing.settleInMs

/-- An edge on an UNPROVEN SINGLE or PAIR object restarts settle-in and changes nothing else (R25). -/
def Obj.restartSettle (settleUnits : Nat) (now : Time) (o : Obj) : Obj :=
  { o with settleDeadline := some (after now settleUnits) }

/-- What an accepted edge on point p does to a LIVE object (R13, R25, R28; sections 3 and 4). -/
def edgeStep (s : State) (p : PointId) (level : Level) (cap : Time) (o : Obj) : ObjStep :=
  match o.cfg.kind with
  | .coded => codedEdge s.bands s.settleUnits level cap s.clock o
  | .single sense =>
    if o.evaluated = .shown .unproven then (o.restartSettle s.settleUnits s.clock).begin
    else o.begin.commit (singleIndication sense level) cap
  | .pair b =>
    if o.evaluated = .shown .unproven then (o.restartSettle s.settleUnits s.clock).begin
    else pairEdge (s.pairTimes o.cfg.pointA b) (decide (p = o.cfg.pointA)) level cap o

/-- An accepted edge is delivered to the owning object: evaluated in RUNNING for a LIVE object, ignored otherwise
(R13, R19, R35). -/
def deliverEdge (p : PointId) (level : Level) (cap : Time) (s : State) : State :=
  if s.partState = .running then
    match (s.point p).owner with
    | some n => match s.live n with
      | some o => applyStep n (edgeStep s p level cap o) s
      | none => s
    | none => s
  else s

end Sys2Proof.Machine
end

