-- ==== Sys2Proof/Machine/SensePoints.lean ====
section
/-! DEFINITION. The sense front end (section 1): raw transitions, glitches and accepted edges. -/

namespace Sys2Proof.Machine

/-- The other level. -/
def Level.flip : Level → Level
  | .made => .opn
  | .opn => .made

/-- The current run is a filter run (R4). -/
def Point.filtering (x : Point) : Bool := decide (x.raw ≠ x.filtered)

/-- A raw transition at the present count, with the group filter time then in force; one that ends a filter run counts
a glitch (R5, R7, R8). -/
def Point.transition (filterUnits : Nat) (now : Time) (x : Point) : Point :=
  { x with raw := x.raw.flip, runStart := now, runFilter := filterUnits,
           glitch := if x.filtering then satInc 255 x.glitch else x.glitch }

/-- A raw transition of point p (R5). -/
def rawTransition (p : PointId) (s : State) : State :=
  s.setPoint p ((s.point p).transition (s.filterUnits p) s.clock)

/-- The filter run of point p has reached its run filter time (R6). -/
def edgeDue (s : State) (p : PointId) : Bool :=
  (s.point p).filtering && decide ((s.point p).runFilter ≤ interval (s.point p).runStart s.clock)

/-- The record after an acceptance (R6). -/
def Point.accept (x : Point) : Point := { x with filtered := x.raw, lastEdge := x.runStart }

/-- A measurement of point p is in progress (R148). -/
def measuring (s : State) (p : PointId) : Bool := s.measure.any fun m => decide (m.point = p)

/-- An accepted edge to OPEN on the measured point discards the measurement (R148). -/
def discardOnOpen (p : PointId) (level : Level) (s : State) : State :=
  if level = .opn ∧ measuring s p = true then { s with measure := none } else s

/-- An edge is accepted on point p and delivered to its owner (R6, R13, R148). -/
def acceptEdge (p : PointId) (s : State) : State :=
  let x := s.point p
  deliverEdge p x.raw x.runStart (discardOnOpen p x.raw (s.setPoint p x.accept))

end Sys2Proof.Machine
end

