-- ==== Sys2Proof/Machine/Outputs.lean ====
section
/-! DEFINITION. The output controller (section 7): states and drivers, the exclusion check, energising, releasing, the
driver check and desk silence. -/

namespace Sys2Proof.Machine

/-! ## States and the driver check -/

/-- The mismatch start time after a sample: kept while the readback disagrees with the commanded level, none in
FAULTED and where they agree (R122). -/
def sampleMismatch (x : Output) (readback : Bool) (now : Time) : Option Time :=
  if x.state = .faulted then none
  else if x.state.energised = readback then none
  else x.mismatch.or (some now)

/-- Output i is sampled against its readback; the check runs in RUNNING (R122, log 27). -/
def sampleDriver (i : OutId) (s : State) : State :=
  match s.output i with
  | some x =>
    if s.partState = .running then
      s.setOutput i { x with mismatch := sampleMismatch x (s.readbackOn i) s.clock }
    else s
  | none => s

/-- Output i enters a state; its commanded level is taken against the readback as it stands (R113, R122). -/
def enterState (i : OutId) (st : OutState) (s : State) : State :=
  match s.output i with
  | some x => sampleDriver i (s.setOutput i { x with state := st })
  | none => s

/-- The readback input of output i shows a level (R122). -/
def setReadback (i : OutId) (on : Bool) (s : State) : State :=
  sampleDriver i { s with readback := upd s.readback i on }

/-- The mismatch of output i has lasted the driver check time in RUNNING (R122). -/
def driverFaultDue (s : State) (i : OutId) : Bool :=
  decide (s.partState = .running) &&
  (match s.output i with
    | some x => decide (x.state ≠ .faulted) &&
        x.mismatch.any fun t => decide (Config.driverCheckUnits ≤ interval t s.clock)
    | none => false)

/-- The driver check faults output i (R123). -/
def driverFault (i : OutId) (s : State) : State :=
  request (.output i) .urgent (endProof i .driverFault 0 (enterState i .faulted s))

/-! ## Energising -/

/-- The exclusion check fails against a partner (R114). -/
def partnerBlocks (s : State) (j : OutId) : Bool :=
  match s.output j with
  | some y => y.state.energised || (decide (y.state = .faulted) && s.readbackOn j)
  | none => false

/-- The exclusion check of an output fails (R114). -/
def excluded (s : State) (x : Output) : Bool := x.cfg.partner.any (partnerBlocks s)

/-- The staged pulse length and proving time become those in force (R112). -/
def Output.applyStaged (x : Output) : Output :=
  { x with cfg := { x.cfg with pulseMs := x.stagedPulse.getD x.cfg.pulseMs,
                               provingMs := x.stagedProving.getD x.cfg.provingMs },
           stagedPulse := none, stagedProving := none }

/-- Staged values of output i are applied (R112). -/
def applyStagedAt (i : OutId) (s : State) : State :=
  match s.output i with
  | some x => s.setOutput i x.applyStaged
  | none => s

/-- Output i is pulsed to an end time: it enters or stays in PULSING, and a new proof replaces one in flight (R115,
R119, R120). -/
def pulseTo (i : OutId) (kind : CmdKind) (endTime : Time) (s : State) : State :=
  startProof i kind (enterState i (.pulsing endTime) s)

/-- The pulse length in force of output i in clock units. -/
def State.pulseUnits (s : State) (i : OutId) : Nat :=
  match s.output i with
  | some x => msUnits x.cfg.pulseMs
  | none => 0

/-- An accepted Pulse Output (R115). -/
def pulse (i : OutId) (s0 : State) : State :=
  let s := applyStagedAt i s0
  pulseTo i .pulse (after s.clock (s.pulseUnits i)) s

/-- An accepted Latch Output, by the state the output is in (R117). -/
def latch (i : OutId) (x : Output) (s : State) : State :=
  match x.state with
  | .off => startProof i .latch (enterState i .latched (applyStagedAt i s))
  | .pulsing _ => proofPulseEnd i (enterState i .latched (applyStagedAt i s))
  | .latched | .faulted => s

/-- An accepted Group Pulse over its members in the order the list gives (R119, log 14). -/
def groupPulse (members : List OutId) (lengthMs : Nat) (s0 : State) : State :=
  let s := members.foldl (fun t i => applyStagedAt i t) s0
  members.foldl (fun t i => pulseTo i .group (after s.clock (msUnits lengthMs)) t) s

/-! ## Releasing -/

/-- A pulse of output i ends: the output enters OFF and the proving unit is told (R116, R118). -/
def endPulse (i : OutId) (s : State) : State := proofPulseEnd i (enterState i .off s)

/-- The pulse end time of output i has been reached (R116). -/
def pulseEndDue (s : State) (i : OutId) : Bool :=
  match s.output i with
  | some x => match x.state with
    | .pulsing t => reached t s.clock
    | .off | .latched | .faulted => false
  | none => false

/-- Output i is treated as by Release All: released when energised, its proof abandoned (R121). -/
def releaseOne (s : State) (i : OutId) : State :=
  match s.output i with
  | some x => endProof i .abandoned 0 (if x.state.energised then enterState i .off s else s)
  | none => s

/-- Every defined output is released in ascending number (R121, R125). -/
def releaseEvery (s : State) : State := (List.finRange 64).foldl releaseOne s

/-! ## Desk silence -/

/-- The desk-silence time in clock units (R124). -/
def State.silenceUnits (s : State) : Nat := msUnits s.timing.silenceMs

/-- A frame has been received whole with a good check: the good-frame flag is set (R174), and in RUNNING the silence
deadline moves and a desk silence ends (R124, R125, R160). -/
def frameReceived (s0 : State) : State :=
  let s := { s0 with goodFrame := true }
  if s.partState = .running then
    let t := { s with silenceDeadline := some (after s.clock s.silenceUnits), deskSilent := false }
    if s.deskSilent then request .part .routine t else t
  else s

/-- The silence deadline has been reached in RUNNING (R125). -/
def silenceDue (s : State) : Bool :=
  decide (s.partState = .running) && deadlineReached s.silenceDeadline s.clock

/-- DESK_SILENCE becomes pending and the part entry requests an urgent entry (R98). -/
def postDeskSilence (s : State) : State :=
  request .part .urgent { s with part := { s.part with deskSilence := true } }

/-- The desk-silence expiry (R125). -/
def silenceExpired (s : State) : State :=
  postDeskSilence (releaseEvery { s with deskSilent := true, silenceDeadline := none })

end Sys2Proof.Machine
end

