-- ==== Sys2Proof/Machine/Survey.lean ====
section
/-! DEFINITION. The contact survey (section 9): attempts, the two gates, loop resistance, health and degradation. -/

namespace Sys2Proof.Machine

/-- A point that may be measured: its group is enabled, its owner is LIVE, its filtered level is MADE (R145). -/
def eligible (s : State) (p : PointId) : Bool :=
  (s.group (groupOf p)).survey && (s.point p).owner.any (fun n => (s.live n).isSome)
    && decide ((s.point p).filtered = .made)

/-- The points from the cursor upward, wrapping from 255 to 0 (R145). -/
def surveyOrder (cursor : PointId) : List PointId := (List.finRange 256).map fun k => cursor + k

/-- The point an attempt chooses (R145). -/
def choosePoint (s : State) : Option PointId := (surveyOrder s.surveyCursor).find? (eligible s)

/-- The next attempt time has been reached in RUNNING (R144). -/
def attemptDue (s : State) : Bool :=
  decide (s.partState = .running) && deadlineReached s.nextAttempt s.clock

/-- The survey interval in clock units (R143). -/
def State.surveyUnits (s : State) : Nat := msUnits s.surveySet.intervalMs

/-- An attempt: a point is chosen and its measurement begins, and the next attempt is one interval later (R144 to
R146); with no point that qualifies the attempt is skipped. -/
def attempt (s : State) : State :=
  let at0 := s.nextAttempt.getD s.clock
  let t := { s with nextAttempt := some (after at0 s.surveyUnits) }
  match choosePoint s with
  | some p => { t with surveyCursor := p + 1, measure := some { phase := .reference, point := p, start := at0 } }
  | none => t

/-- REF_FAULT or REF_RESTORED of a group becomes pending and the part entry requests an entry (R98). -/
def postRefFault (g : GroupId) (s : State) : State :=
  request .part .urgent { s with part := { s.part with refFault := s.part.refFault ||| groupBit g } }

/-- REF_RESTORED of a group is posted (R98). -/
def postRefRestored (g : GroupId) (s : State) : State :=
  request .part .routine { s with part := { s.part with refRestored := s.part.refRestored ||| groupBit g } }

/-- A gate of the measurement in progress has ended: one gate after its start for REFERENCE, two for POINT (R146). -/
def gateReached (m : Measurement) (gates : Nat) (now : Time) : Bool :=
  decide (Config.gateUnits * gates ≤ interval m.start now)

/-- The measurement whose reference gate has ended. -/
def referenceDue (s : State) : Option Measurement :=
  s.measure.filter fun m => decide (m.phase = .reference) && gateReached m 1 s.clock

/-- The measurement whose point gate has ended, with its reference count. -/
def pointGateDue (s : State) : Option (Measurement × Nat) :=
  match s.measure with
  | some m => match m.phase with
    | .point c => if gateReached m 2 s.clock then some (m, c) else none
    | .reference => none
  | none => none

/-- The reference judgment of a count for the measurement in progress (R147). -/
def judgeReference (m : Measurement) (count : Nat) (s : State) : State :=
  let g := groupOf m.point
  let x := s.group g
  if count < Config.referenceMinimum then
    let t := { s with measure := none }
    if x.refFault then t else postRefFault g (t.setGroup g { x with refFault := true })
  else
    let t := { s with measure := some { m with phase := .point count } }
    if x.refFault then postRefRestored g (t.setGroup g { x with refFault := false }) else t

/-- The loop resistance in tenths of an ohm (R149). -/
def loopResistance (refRes refCount pointCount : Nat) : Nat :=
  if pointCount = 0 then 65535 else sat16 ((refRes * refCount + pointCount / 2) / pointCount)

/-- The over count and degraded flag after a completed measurement (R151). -/
def Health.judge (set : SurveySettings) (r : Nat) (h : Health) : Health :=
  if set.degrade < r then
    { h with overCount := satInc 2 h.overCount, degraded := h.degraded || decide (satInc 2 h.overCount = 2) }
  else if set.clear < r then { h with overCount := 0 }
  else { h with overCount := 0, degraded := false }

/-- A health record after a completed measurement (R150, R151). -/
def Health.measured (set : SurveySettings) (r : Nat) (h : Health) : Health :=
  { h with last := r, highest := max h.highest r, count := satInc 65535 h.count }.judge set r

/-- The points of an object. -/
def ObjDef.points (d : ObjDef) : List PointId :=
  match d.kind with
  | .pair b => [d.pointA, b]
  | .single _ | .coded => [d.pointA]

/-- At least one of the object's points is degraded (R152). -/
def anyDegraded (s : State) (d : ObjDef) : Bool := d.points.any fun p => (s.healthOf p).degraded

/-- The object's degraded flag follows its points, raising DEGRADED_ON or DEGRADED_OFF when it changes (R152). -/
def degradeStep (s : State) (o : Obj) : ObjStep :=
  let now := anyDegraded s o.cfg
  let p := ({ o with degraded := now } : Obj).begin
  if now = o.degraded then p
  else if now then p.raise .degradedOn else p.raise .degradedOff

/-- A change of the point's degraded flag is handed to its owner (R151, R152). -/
def degradeOwner (p : PointId) (s : State) : State :=
  match (s.point p).owner with
  | some n => match s.object n with
    | some o => applyStep n (degradeStep s o) s
    | none => s
  | none => s

/-- The point gate ends with a count: the resistance is computed, the health record updated, and a change of the
degraded flag handed on (R146, R149 to R152; log 30). -/
def completeMeasurement (m : Measurement) (refCount count : Nat) (s : State) : State :=
  let r := loopResistance (s.group (groupOf m.point)).refRes refCount (sat16 count)
  let old := s.healthOf m.point
  let new := old.measured s.surveySet r
  let t := { s with measure := none }.setHealth m.point new
  if new.degraded = old.degraded then t else degradeOwner m.point t

end Sys2Proof.Machine
end

