-- ==== Sys2Proof/Machine/Messages.lean ====
section
/-! DEFINITION. The bodies the module sends: reports, snapshot frames and the data of answers (section 10.7). -/

namespace Sys2Proof.Machine

/-! ## Reports -/

/-- The committed band: n for CODE_n, 0 for none (R66, R79). -/
def Obj.bandByte (o : Obj) : Byte :=
  match o.evaluated with
  | .shown (.code n) => u8 (n.val + 1)
  | _ => 0

/-- The last transit time a report carries (R59). -/
def PairRec.lastTime (r : PairRec) : Nat :=
  match r.lastDir with
  | some .pickUp => r.lastPickUp
  | some .dropAway => r.lastDropAway
  | none => 0

/-- A STATE REPORT body from an object's record, its pending events given apart (R95, R107). -/
def stateReport (n : ObjId) (o : Obj) (events : BitVec 8) (m : Marks) (entryTime : Time) : Frame :=
  { type := 0x81,
    body := [u8 n.val] ++ be16 o.cfg.tag ++ [o.cfg.kind.byte, o.reported.byte, o.flags ||| m.byte, events,
              u8 o.changes] ++ be32 o.lastChange ++ be32 entryTime ++ be16 o.pair.lastTime
              ++ [directionByte o.pair.lastDir, o.bandByte] ++ be16 o.code.lastRate ++ [u8 o.code.lastDuty] }

/-- What an OUTCOME REPORT shows of the outcome record. -/
structure OutcomeShown where
  outcome : Option ProofOutcome
  kind : Option CmdKind
  start : Time
  time : Nat
  lost : Nat
  deriving DecidableEq, Repr

/-- No outcome, with a count of lost ones. -/
def OutcomeShown.nothing (lost : Nat) : OutcomeShown :=
  { outcome := none, kind := none, start := 0, time := 0, lost := lost }

/-- The outcome is shown while it is unsent (R128). -/
def OutcomeRec.shown (r : OutcomeRec) : OutcomeShown :=
  if r.unsent then { outcome := r.outcome, kind := r.kind, start := r.start, time := r.time, lost := r.lost }
  else OutcomeShown.nothing r.lost

/-- The outcome record as a snapshot record beside an urgent entry shows it (R107, log 18). -/
def OutcomeRec.standing (r : OutcomeRec) : OutcomeShown :=
  OutcomeShown.nothing (if Config.urgentRecordShowsLost then r.lost else 0)

/-- An OUTCOME REPORT body (R128); bits 0 to 3 of its flags, which are an object's, are 0 (log 36). -/
def outcomeReport (i : OutId) (x : Output) (readback : Bool) (shown : OutcomeShown) (m : Marks) (entryTime : Time) :
    Frame :=
  { type := 0x82,
    body := [u8 i.val] ++ be16 x.cfg.tag ++ [x.state.byte, flagByte readback, outcomeByte shown.outcome,
              kindByte shown.kind] ++ be32 shown.start ++ be16 shown.time ++ [u8 shown.lost, m.byte]
              ++ be32 entryTime }

/-- A PART REPORT body, its part events given apart (R97, R107); its flags are the markers alone (section 10.7). -/
def partReport (s : State) (events : PartEvents) (m : Marks) (entryTime : Time) : Frame :=
  { type := 0x83,
    body := [s.partState.byte, s.imageStatus.byte] ++ be16 s.refFaultSet.toNat ++ be16 events.refFault.toNat
              ++ be16 events.refRestored.toNat ++ [events.byte, flagByte s.deskSilent, u8 s.faultedOutputs, m.byte]
              ++ be32 entryTime }

/-- SNAP_BEGIN (R104). -/
def snapBeginFrame (s : State) (position : SummaryPos) : Frame :=
  { type := 0x84,
    body := [u8 s.definedObjects.length, u8 s.definedOutputs.length, position.byte] ++ be32 s.clock }

/-- SNAP_END (R104). -/
def snapEndFrame (s : State) (sent : Nat) : Frame := { type := 0x85, body := be32 s.clock ++ [u8 sent] }

/-! ## Answers -/

/-- The type of an ANSWER frame. -/
def answerType : Byte := 0x86

/-- The frames of an answer: one, or its parts in order with part number and part count (R162). -/
def Answer.frames (a : Answer) : Frame × List Frame :=
  match a.data with
  | [] => ({ type := answerType, body := [a.echo, a.code.byte] }, [])
  | [d] => ({ type := answerType, body := [a.echo, a.code.byte] ++ d }, [])
  | d :: ds =>
    ({ type := answerType, body := [a.echo, a.code.byte, 1, u8 (ds.length + 1)] ++ d },
     ds.mapIdx fun i e => { type := answerType, body := [a.echo, a.code.byte, u8 (i + 2), u8 (ds.length + 1)] ++ e })

/-- The answer to an accepted Reset (R163). -/
def Answer.isReset (a : Answer) : Bool := decide (a.echo = 0x31 ∧ a.code = .accepted)

/-- An optional clock value as a body carries it: 0 when it is none. -/
def timeBytes (t : Option Time) : List Byte := be32 (t.getD 0)

/-- The queue a source's entry stands in: none 0, urgent 1, routine 2 (section 10.7). -/
def queueByte (s : State) (src : Source) : Byte :=
  if holds s.urgent src then 1 else if holds s.routine src then 2 else 0

/-- Point B as an answer shows it. -/
def Kind.pointByte : Kind → Byte
  | .pair b => u8 b.val
  | .single _ | .coded => absent

/-- The sense as an answer shows it. -/
def Kind.senseByte : Kind → Byte
  | .single x => x.byte
  | .pair _ | .coded => absent

/-- The flags byte of a Read Object answer (R37, log 17). -/
def Obj.readFlags (o : Obj) : Byte := if Config.readObjectShowsAllFlags then o.flags else o.flagsOfR37

/-- A presence marker for two or three staged values; its other bits are 0 (log 36). -/
def stagedMarker (a b c : Bool) : Byte := bitIf 0 a ||| bitIf 1 b ||| bitIf 2 c

/-- The definition of an object in a Read Object answer (R37, section 10.7). DESIGN CHOICE: the desk tag takes two bytes,
though the layout gives it no size (log 37). -/
def objectDefinitionData (n : ObjId) (d : ObjDef) : List Byte :=
  [u8 n.val, d.kind.byte, u8 d.pointA.val, d.kind.pointByte, d.kind.senseByte] ++ be16 d.tag
    ++ [flagByte d.urgent] ++ be16 d.transitMs ++ [u8 d.chatterLimit] ++ be16 d.steadyMs ++ be16 d.service

/-- The staged values of an object in a Read Object answer (R37, section 10.7). -/
def objectStagedData (t : Staged) : List Byte :=
  [stagedMarker t.transit.isSome t.chatter.isSome t.steady.isSome] ++ be16 (t.transit.getD 0)
    ++ [u8 (t.chatter.getD 0)] ++ be16 (t.steady.getD 0)

/-- The standing of an object in a Read Object answer (R37, section 10.7). -/
def objectStandingData (o : Obj) : List Byte :=
  [o.admission.byte, o.shown.byte, o.reported.byte] ++ be32 o.lastChange ++ [u8 o.changes, o.events, o.readFlags]
    ++ be16 o.opCount ++ [flagByte o.serviceLatch]

/-- The times and codes of an object in a Read Object answer (R37, section 10.7). -/
def objectTimesData (o : Obj) : List Byte :=
  be16 o.pair.lastPickUp ++ be16 o.pair.lastDropAway
    ++ [directionByte o.pair.lastDir, o.bandByte, indicationByte o.code.candidate] ++ be16 o.code.lastRate
    ++ be16 (sat16 o.code.lastOnTime) ++ [u8 o.code.lastDuty]

/-- The data of a Read Object answer (R37, section 10.7). -/
def objectData (s : State) (n : ObjId) (o : Obj) : List Byte :=
  objectDefinitionData n o.cfg ++ objectStagedData o.staged ++ objectStandingData o ++ objectTimesData o
    ++ [queueByte s (.object n)]

/-- An optional number as a body carries it. -/
def numberByte {k : Nat} (n : Option (Fin k)) : Byte :=
  match n with
  | some i => u8 i.val
  | none => absent

/-- The pulse end time while PULSING (R129). -/
def OutState.endTime : OutState → Option Time
  | .pulsing t => some t
  | .off | .latched | .faulted => none

/-- The definition and staged values of an output in a Read Output answer (R129, section 10.7). -/
def outputDefinitionData (i : OutId) (x : Output) : List Byte :=
  [u8 i.val] ++ be16 x.cfg.tag ++ [x.cfg.mode.byte, numberByte x.cfg.partner, numberByte x.cfg.proving,
      indicationByte x.cfg.expected] ++ be16 x.cfg.pulseMs ++ be16 x.cfg.provingMs
    ++ [stagedMarker x.stagedPulse.isSome x.stagedProving.isSome false] ++ be16 (x.stagedPulse.getD 0)
    ++ be16 (x.stagedProving.getD 0)

/-- The driver of an output in a Read Output answer (R129, section 10.7). -/
def outputDriverData (x : Output) (readback : Bool) : List Byte :=
  [x.state.byte] ++ timeBytes x.state.endTime ++ [flagByte readback, flagByte x.mismatch.isSome]
    ++ timeBytes x.mismatch

/-- A proof record in a Read Output answer (R129, section 10.7). -/
def proofData (p : Proof) : List Byte :=
  [p.phase.byte, kindByte p.kind] ++ be32 p.start ++ timeBytes p.deadline

/-- An outcome record in a Read Output answer (R129, section 10.7). -/
def outcomeData (r : OutcomeRec) : List Byte :=
  [outcomeByte r.outcome, kindByte r.kind] ++ be32 r.start ++ be16 r.time ++ [flagByte r.unsent, u8 r.lost]

/-- The data of a Read Output answer (R129, section 10.7). -/
def outputData (s : State) (i : OutId) (x : Output) : List Byte :=
  outputDefinitionData i x ++ outputDriverData x (s.readbackOn i) ++ proofData (s.proof i) ++ outcomeData x.result
    ++ [queueByte s (.output i)]

/-- One point of a Read Points answer (R15); the bits of its first byte above bit 1 are 0 (log 36). -/
def pointData (x : Point) : List Byte :=
  [bitIf 0 (decide (x.raw = .made)) ||| bitIf 1 (decide (x.filtered = .made))] ++ be32 x.runStart ++ be32 x.lastEdge
    ++ [u8 x.glitch, numberByte x.owner]

/-- The points a read reports: count of them from the first upward, wrapping past 255 (R15, R153). -/
def pointRange (first : PointId) (count : Nat) : List PointId :=
  (List.range count).map fun k => first + Fin.ofNat 256 k

/-- One part of a Read Points answer: its own first point and count, then its entries (R162). -/
def pointsPart (s : State) (points : List PointId) : List Byte :=
  [u8 ((points.head?.map Fin.val).getD 0), u8 points.length] ++ points.flatMap fun p => pointData (s.point p)

/-- A list in shares of at most 22, in order (R162, log 19); the first argument bounds the shares. -/
def shares : Nat → List PointId → List (List PointId)
  | 0, _ => []
  | _ + 1, [] => []
  | n + 1, l => l.take 22 :: shares n (l.drop 22)

/-- The parts of a Read Points answer (R162). -/
def pointsData (s : State) (first : PointId) (count : Nat) : List (List Byte) :=
  (shares 3 (pointRange first count)).map (pointsPart s)

/-- One health record of a Read Health answer (R153, section 10.7). DESIGN CHOICE: bits 2 to 6 of its last byte, for which
the layout names no use, are sent as 0 (log 36). -/
def healthEntry (h : Health) : List Byte :=
  be16 h.last ++ be16 h.highest ++ be16 h.count ++ [u8 h.overCount ||| bitIf 7 h.degraded]

/-- The data of a Read Health answer (R153). -/
def healthData (s : State) (first : PointId) (count : Nat) : List Byte :=
  [u8 first.val, u8 count] ++ (pointRange first count).flatMap fun p => healthEntry (s.healthOf p)

/-- The data of a Read Status answer (R165, section 10.7). -/
def statusData (s : State) : List Byte :=
  [s.partState.byte, s.imageStatus.byte, flagByte s.store.isSome, s.baud.byte] ++ be32 s.clock
    ++ be16 s.errors.length ++ be16 s.errors.check ++ be16 s.errors.abandoned ++ be16 s.errors.overruns
    ++ [u8 s.urgent.length, u8 s.routine.length, s.reporting.ratio.byte, u8 s.urgentRun, s.reporting.position.byte,
        flagByte s.snapshot.isSome] ++ timeBytes (s.window.map Window.start) ++ be16 s.refFaultSet.toNat
    ++ [u8 s.faultedOutputs, flagByte s.deskSilent]

end Sys2Proof.Machine
end

