-- ==== Sys2Proof/Machine/Scheduler.lean ====
section
/-! DEFINITION. The report scheduler (section 6): what is sent when the transmitter is free, what sending clears, and
the snapshot. -/

namespace Sys2Proof.Machine

/-! ## Sending -/

/-- A frame, with the parts that follow it, goes on the line now. -/
def transmit (f : Frame) (parts : List Frame) (isReset : Bool) (s : State) : State :=
  { s with tx := some { frame := f, parts := parts, start := s.clock, isReset := isReset } }

/-- The news of an object has been delivered (R96). -/
def Obj.delivered (o : Obj) : Obj := { o with events := 0, changes := 0 }

/-- The news of an output has been delivered (R96, R127). -/
def Output.delivered (x : Output) : Output := { x with result := { x.result with unsent := false, lost := 0 } }

/-- The frame a source's record gives with all its news, and the state with that news cleared (R95, R96, R106, R108);
none for a source that is not defined, which holds no entry (log 29). -/
def deliver (src : Source) (m : Marks) (entryTime : Time) (s : State) : Option (Frame × State) :=
  match src with
  | .object n => (s.object n).map fun o => (stateReport n o o.events m entryTime, s.setObject n o.delivered)
  | .output i => (s.output i).map fun x =>
      (outcomeReport i x (s.readbackOn i) x.result.shown m entryTime, s.setOutput i x.delivered)
  | .part => some (partReport s s.part m entryTime, { s with part := PartEvents.empty })

/-- The report of an entry is sent: built from the record, the entry removed, the news cleared, in one step (R96). -/
def sendEntry (e : Entry) (urgent : Bool) (s : State) : State :=
  let t := removeEntry e.source s
  match deliver e.source { urgent := urgent, snapshot := false, urgentPending := false } e.created t with
  | some (f, u) => transmit f [] false u
  | none => t

/-! ## The snapshot -/

/-- The frame of a source with no news, beside its urgent entry (R107). -/
def standingRecord (src : Source) (s : State) : Option Frame :=
  let m : Marks := { urgent := false, snapshot := true, urgentPending := true }
  match src with
  | .object n => (s.object n).map fun o => stateReport n o 0 m s.clock
  | .output i => (s.output i).map fun x => outcomeReport i x (s.readbackOn i) x.result.standing m s.clock
  | .part => some (partReport s PartEvents.empty m s.clock)

/-- The snapshot record of a source is sent: with an urgent entry it carries no news and clears nothing (R107);
otherwise it carries the news, clears it and takes up a routine entry (R106, R108). -/
def sendRecord (src : Source) (s : State) : State :=
  if holds s.urgent src then
    match standingRecord src s with
    | some f => transmit f [] false s
    | none => s
  else
    let t := removeEntry src s
    match deliver src { urgent := false, snapshot := true, urgentPending := false } s.clock t with
    | some (f, u) => transmit f [] false u
    | none => t

/-- The item after the objects and outputs (R104). -/
def afterOutputs : SummaryPos → Cursor
  | .first => .snapEnd
  | .last => .summary

/-- The first of a list of outputs, or what follows them (R104). -/
def cursorOutputs (position : SummaryPos) : List OutId → Cursor
  | i :: _ => .output i
  | [] => afterOutputs position

/-- The first of a list of objects, or what follows them (R104). -/
def cursorObjects (s : State) (position : SummaryPos) : List ObjId → Cursor
  | n :: _ => .object n
  | [] => cursorOutputs position s.definedOutputs

/-- The item a snapshot sends after this one; undefined numbers are passed over (R104). -/
def nextCursor (s : State) (position : SummaryPos) (c : Cursor) : Cursor :=
  match c, position with
  | .snapBegin, .first => .summary
  | .snapBegin, .last => cursorObjects s position s.definedObjects
  | .summary, .first => cursorObjects s position s.definedObjects
  | .summary, .last => .snapEnd
  | .object n, _ => cursorObjects s position (s.definedObjects.filter fun k => decide (n < k))
  | .output i, _ => cursorOutputs position (s.definedOutputs.filter fun k => decide (i < k))
  | .snapEnd, _ => .snapEnd

/-- The source whose record a cursor names. -/
def Cursor.source : Cursor → Option Source
  | .object n => some (.object n)
  | .output i => some (.output i)
  | .summary => some .part
  | .snapBegin | .snapEnd => none

/-- The snapshot's cursor moves on, a record counted when one was sent (R104). -/
def Snapshot.advance (s : State) (p : Snapshot) : Snapshot :=
  { p with cursor := nextCursor s p.position p.cursor, sent := if p.cursor.source.isSome then p.sent + 1 else p.sent }

/-- The snapshot sends its next frame (R104, R105). -/
def sendSnapshot (p : Snapshot) (s : State) : State :=
  let t := { s with snapshot := some (p.advance s) }
  match p.cursor with
  | .snapBegin => transmit (snapBeginFrame s p.position) [] false t
  | .summary => sendRecord .part t
  | .object n => sendRecord (.object n) t
  | .output i => sendRecord (.output i) t
  | .snapEnd => transmit (snapEndFrame s p.sent) [] false { s with snapshot := none }

/-! ## The choice -/

/-- N of a ratio mode; none in STRICT (R100). -/
def RatioMode.run : RatioMode → Option Nat
  | .strict => none
  | .r8 => some 8
  | .r4 => some 4
  | .r2 => some 2

/-- Routine work is waiting: a snapshot in progress, or the routine queue's head (R99). -/
def State.routineWaiting (s : State) : Bool := s.snapshot.isSome || !s.routine.isEmpty

/-- Routine work is sent: the snapshot stream while one is in progress, the routine queue's head otherwise (R99). -/
def sendRoutine (s : State) : State :=
  match s.snapshot, s.routine with
  | some p, _ => sendSnapshot p s
  | none, e :: _ => sendEntry e false s
  | none, [] => s

/-- The ratio mode gives this choice to routine work: the counter has reached N (R100). -/
def routineTurn (s : State) : Bool :=
  match s.reporting.ratio.run with
  | some n => decide (n ≤ s.urgentRun)
  | none => false

/-- The urgent-run counter after an urgent head sent while routine work waited (R100). -/
def countUrgent (s : State) : Nat :=
  match s.reporting.ratio.run with
  | some _ => s.urgentRun + 1
  | none => s.urgentRun

/-- Something is waiting to be sent. -/
def State.waiting (s : State) : Bool := !s.answers.isEmpty || !s.urgent.isEmpty || s.routineWaiting

/-- The choice of the scheduler when the transmitter is free: an answer first, then by the ratio mode (R99, R100). -/
def choose (s : State) : State :=
  match s.answers, s.urgent with
  | a :: rest, _ => transmit a.frames.1 a.frames.2 a.isReset { s with answers := rest }
  | [], e :: _ =>
    if s.routineWaiting then
      if routineTurn s then sendRoutine { s with urgentRun := 0 }
      else sendEntry e true { s with urgentRun := countUrgent s }
    else sendEntry e true s
  | [], [] => if s.routineWaiting then sendRoutine { s with urgentRun := 0 } else s

/-- The scheduler makes a choice at the end of a step that leaves the transmitter free (R99, log 11). -/
def schedule (s : State) : State :=
  match s.tx with
  | some _ => s
  | none => choose s

/-- The line time of the frame on the line has run: ten bit times a byte at the line rate, in clock units of 0.1 ms
(R154, R167, log 10). -/
def frameTimeRun (s : State) (x : Transmission) : Bool :=
  decide (x.frame.length * 100000 ≤ interval x.start s.clock * s.baud.rate)

end Sys2Proof.Machine
end

