-- ==== Sys2Proof/Machine/Definitions.lean ====
section
/-! DEFINITION. Definitions and settings as Define Object, Define Output, Set Bands, Set Group, Set Part Timing and Set
Survey make them; the image load makes them by the same operations (R17, R110, R170). -/

namespace Sys2Proof.Machine

/-! ## Objects -/

/-- The runtime record an object begins with (R19, R38, R66, R82). -/
def Obj.define (d : ObjDef) : Obj where
  cfg := d
  staged := { transit := none, chatter := none, steady := none }
  admission := .live
  evaluated := .shown .unproven
  reported := .unproven
  origin := none
  settled := none
  lastChange := 0
  changes := 0
  events := 0
  quarantined := false
  degraded := false
  opCount := 0
  serviceLatch := false
  serviceTest := false
  windowCount := 0
  settleDeadline := none
  pair := { transitStart := none, transitDeadline := none, conflictStart := none, conflictDeadline := none,
            lastPickUp := 0, lastDropAway := 0, lastDir := none }
  code := { anchor := none, periods := [], candidate := none, lastRate := 0, lastOnTime := 0, lastDuty := 0,
            steadyDeadline := none }

/-- The kind a Define Object gives: none for a kind or sense that names nothing, or a PAIR whose points are the same
(R18 test 3). -/
def ObjectForm.kindOf (f : ObjectForm) : Option Kind :=
  if f.kind = 0 then
    if f.sense = 0 then some (.single .front) else if f.sense = 1 then some (.single .back) else none
  else if f.kind = 1 then if f.pointA = f.pointB then none else some (.pair (pointNumber f.pointB))
  else if f.kind = 2 then some .coded
  else none

/-- An accepted definition of an object, and whether a field was moved by clamping (R18). -/
structure ObjectGiven where
  cfg : ObjDef
  moved : Bool
  deriving DecidableEq, Repr

/-- A parameter of an object: its clamped or default value where the kind uses it, 0 and unexamined where not (R18,
log 25). -/
def ifUsed (uses : Bool) (x : Clamped) : Clamped := if uses then x else { value := 0, moved := false }

/-- The definition a Define Object gives, clamped (R18); the defaults are those of section 2.1.1. -/
def ObjectForm.definition (f : ObjectForm) (k : Kind) (urgent : Bool) : ObjectGiven :=
  let tag := clampTag f.tag
  let tr := ifUsed (decide (k.byte = 1))
    (if present f.presence 0 then clampTransit f.transitMs else { value := 400, moved := false })
  let ch : Clamped := if present f.presence 1 then clampChatter f.chatterLimit.toNat else { value := 12, moved := false }
  let st := ifUsed (decide (k.byte = 2))
    (if present f.presence 2 then clampSteady f.steadyMs else { value := 1500, moved := false })
  let sv := ifUsed (decide (k.byte ≠ 2))
    { value := if present f.presence 3 then f.service.toNat else 0, moved := false }
  { cfg := { kind := k, pointA := pointNumber f.pointA, tag := tag.value, urgent := urgent, transitMs := tr.value,
             chatterLimit := ch.value, steadyMs := st.value, service := sv.value },
    moved := tag.moved || tr.moved || ch.moved || st.moved }

/-- The point has an owner (R12). -/
def State.owned (s : State) (p : PointId) : Bool := (s.point p).owner.isSome

/-- Point p becomes owned by object n (R12). -/
def own (n : ObjId) (s : State) (p : PointId) : State := s.setPoint p { s.point p with owner := some n }

/-- Object n is defined with its record at definition, and owns its points (R12, R17, R19). -/
def addObject (n : ObjId) (d : ObjDef) (s : State) : State :=
  d.points.foldl (own n) (s.setObject n (Obj.define d))

/-- Tests 3 to 5 of R18 and the definition; the answer code of the first test failed, or the new state and whether a
field was moved. -/
def defineObjectForm (f : ObjectForm) (s : State) : Except AnswerCode (State × Bool) :=
  match f.kindOf, flagOfByte f.urgent with
  | some k, some urgent =>
    match objectNumber f.number with
    | none => .error .noSuch
    | some n =>
      let g := f.definition k urgent
      if (s.object n).isSome || g.cfg.points.any s.owned then .error .inUse
      else .ok (addObject n g.cfg s, g.moved)
  | _, _ => .error .badForm

/-! ## Outputs -/

/-- The record a defined output begins with (R111, R122, R126). -/
def Output.define (d : OutDef) : Output where
  cfg := d
  stagedPulse := none
  stagedProving := none
  state := .off
  mismatch := none
  result := { outcome := none, kind := none, start := 0, time := 0, unsent := false, lost := 0 }

/-- The mode a byte names. -/
def modeOfByte (b : Byte) : Option Mode :=
  if b = 0 then some .pulseOnly else if b = 1 then some .latchable else none

/-- Test 3 of R111 fails: mode, a partner equal to the output's own number, an expected indication that names
nothing. -/
def OutputForm.badForm (f : OutputForm) : Bool :=
  (modeOfByte f.mode).isNone || (present f.presence 0 && decide (f.partner = f.number))
    || (present f.presence 1 && (expectedOfByte f.expected).isNone)

/-- Test 4 of R111 fails: a number out of range. -/
def OutputForm.outOfRange (f : OutputForm) : Bool :=
  decide (63 < f.number.toNat) || (present f.presence 0 && decide (63 < f.partner.toNat))
    || (present f.presence 1 && decide (127 < f.proving.toNat))

/-- An accepted definition of an output, and whether a field was moved by clamping (R111). -/
structure OutputGiven where
  cfg : OutDef
  moved : Bool
  deriving DecidableEq, Repr

/-- The definition a Define Output gives, clamped (R111); the defaults are those of R110. -/
def OutputForm.definition (f : OutputForm) : OutputGiven :=
  let tag := clampTag f.tag
  let pl : Clamped := if present f.presence 2 then clampPulse f.pulseMs else { value := 500, moved := false }
  let pt : Clamped := if present f.presence 3 then clampProving f.provingMs else { value := 8000, moved := false }
  { cfg := { tag := tag.value, mode := (modeOfByte f.mode).getD .pulseOnly,
             partner := if present f.presence 0 then outputNumber f.partner else none,
             proving := if present f.presence 1 then objectNumber f.proving else none,
             expected := if present f.presence 1 then expectedOfByte f.expected else none,
             pulseMs := pl.value, provingMs := pt.value },
    moved := tag.moved || pl.moved || pt.moved }

/-- Tests 3 to 5 of R111 and the definition; the proof record begins empty (R131). -/
def defineOutputForm (f : OutputForm) (s : State) : Except AnswerCode (State × Bool) :=
  if f.badForm then .error .badForm
  else if f.outOfRange then .error .noSuch
  else match outputNumber f.number with
    | none => .error .noSuch
    | some i =>
      if (s.output i).isSome then .error .inUse
      else .ok ((s.setOutput i (Output.define f.definition.cfg)).setProof i Proof.reset, f.definition.moved)

/-! ## The band table -/

/-- One limit of a band after clamping (R62). -/
def clampRate (x : Word16) : Clamped := clampField 1 999 x.toNat

/-- A slot after clamping (R62). -/
def bandOf (f : BandForm) : Option Band :=
  f.map fun x => { min := (clampRate x.1).value, max := (clampRate x.2).value }

/-- A value of the slot was moved (R62). -/
def bandMoved (f : BandForm) : Bool := f.any fun x => (clampRate x.1).moved || (clampRate x.2).moved

/-- Two bands share a rate (R62). -/
def Band.overlaps (a b : Band) : Bool := decide (a.min ≤ b.max ∧ b.min ≤ a.max)

/-- A present slot's minimum exceeds its maximum (R62 test 4). -/
def bandsInverted (t : Vector (Option Band) 8) : Bool :=
  (List.finRange 8).any fun i => (t.get i).any fun b => decide (b.max < b.min)

/-- Two present slots share a rate (R62 test 5). -/
def bandsOverlap (t : Vector (Option Band) 8) : Bool :=
  (List.finRange 8).any fun i => (List.finRange 8).any fun j => decide (i < j) &&
    (match t.get i, t.get j with
      | some a, some b => a.overlaps b
      | _, _ => false)

/-- Tests 4 and 5 of R62: the table the slots give, and whether a value was moved. -/
def bandTable (f : Vector BandForm 8) : Except AnswerCode (Vector (Option Band) 8 × Bool) :=
  let t := f.map bandOf
  if bandsInverted t then .error .badForm
  else if bandsOverlap t then .error .overlap
  else .ok (t, f.toList.any bandMoved)

/-! ## Settings -/

/-- The filter time of a group (R9). -/
def clampFilter (x : Byte) : Clamped := clampField 1 50 x.toNat

/-- The reference resistance of a group (R142). -/
def clampRefRes (x : Word16) : Clamped := clampField 100 10000 x.toNat

/-- A group's settings set, its reference fault flag cleared (R9, R142). -/
def GroupForm.group (f : GroupForm) : Group :=
  { filterMs := (clampFilter f.filterMs).value, survey := f.survey, refRes := (clampRefRes f.refRes).value,
    refFault := false }

/-- A setting of the group was moved. -/
def GroupForm.moved (f : GroupForm) : Bool := (clampFilter f.filterMs).moved || (clampRefRes f.refRes).moved

/-- The settle-in time (R23). -/
def clampSettle (x : Word16) : Clamped := clampField 200 10000 x.toNat

/-- The conflict delay (R39). -/
def clampConflict (x : Word16) : Clamped := clampField 10 500 x.toNat

/-- The chatter window in seconds (R80). -/
def clampWindow (x : Byte) : Clamped := clampField 1 10 x.toNat

/-- The desk-silence time (R124). -/
def clampSilence (x : Word16) : Clamped := clampField 500 30000 x.toNat

/-- The part timing with the marked fields set, bit i for the i-th (R164). -/
def TimingForm.apply (f : TimingForm) (presence : Byte) (t : PartTiming) : PartTiming :=
  { settleInMs := if present presence 0 then (clampSettle f.settleInMs).value else t.settleInMs,
    conflictMs := if present presence 1 then (clampConflict f.conflictMs).value else t.conflictMs,
    windowS := if present presence 2 then (clampWindow f.windowS).value else t.windowS,
    silenceMs := if present presence 3 then (clampSilence f.silenceMs).value else t.silenceMs }

/-- A marked field was moved (R164). -/
def TimingForm.moved (f : TimingForm) (presence : Byte) : Bool :=
  (present presence 0 && (clampSettle f.settleInMs).moved) || (present presence 1 && (clampConflict f.conflictMs).moved)
    || (present presence 2 && (clampWindow f.windowS).moved)
    || (present presence 3 && (clampSilence f.silenceMs).moved)

/-- The survey interval (R143). -/
def clampInterval (x : Word16) : Clamped := clampField 50 60000 x.toNat

/-- The degrade threshold (R143). -/
def clampDegrade (x : Word16) : Clamped := clampField 1 65534 x.toNat

/-- The clear threshold (R143). -/
def clampClear (x : Word16) : Clamped := clampField 0 65533 x.toNat

/-- The survey settings with the marked fields set, before the thresholds are compared (R143). -/
def SurveyForm.set (f : SurveyForm) (presence : Byte) (t : SurveySettings) : SurveySettings :=
  { intervalMs := if present presence 0 then (clampInterval f.intervalMs).value else t.intervalMs,
    degrade := if present presence 1 then (clampDegrade f.degrade).value else t.degrade,
    clear := if present presence 2 then (clampClear f.clear).value else t.clear }

/-- The clear threshold kept below the degrade threshold (R143). -/
def SurveySettings.ordered (t : SurveySettings) : SurveySettings :=
  if t.degrade ≤ t.clear then { t with clear := t.degrade - 1 } else t

/-- The survey settings a message gives (R143). -/
def SurveyForm.apply (f : SurveyForm) (presence : Byte) (t : SurveySettings) : SurveySettings :=
  (f.set presence t).ordered

/-- A value was moved, by its range or by the order of the thresholds (R143). -/
def SurveyForm.moved (f : SurveyForm) (presence : Byte) (t : SurveySettings) : Bool :=
  (present presence 0 && (clampInterval f.intervalMs).moved) || (present presence 1 && (clampDegrade f.degrade).moved)
    || (present presence 2 && (clampClear f.clear).moved)
    || decide ((f.set presence t).degrade ≤ (f.set presence t).clear)

end Sys2Proof.Machine
end

