-- ==== Sys2Proof/Machine/ImageLayout.lean ====
section
/-! DEFINITION. The bytes of the configuration image (R170): what the store writes, what the load reads back, and the
check over them. The spec gives the order of the parts; the bytes inside each part are the model's (log 7). -/

namespace Sys2Proof.Machine

/-! ## Signature and check -/

/-- The two characters GW (R170). -/
def signatureGW : Word16 := 0x4757#16

/-- A word made other than a given one. -/
def otherThan (x y : Word16) : Word16 := if y = x then ~~~y else y

/-- The check over every byte of the image after the signature agrees (R155, R170). -/
def ConfigMemory.checkAgrees (m : ConfigMemory) : Bool := decide (m.check = crc m.content)

/-- The memory that holds a whole image (R173). -/
def ConfigMemory.whole (content : List Byte) : ConfigMemory :=
  { signature := signatureGW, content := content, check := crc content }

/-- A memory with a signature, a free content, and a check that does not match it (R173, log 8). -/
def ConfigMemory.partial_ (signature : Word16) (k : Nat) : ConfigMemory :=
  { signature := signature, content := Config.freeContent k,
    check := otherThan (crc (Config.freeContent k)) (Config.freeWord k) }

/-! ## Writing -/

/-- A word, high byte first. -/
def wordBytes (w : Word16) : List Byte := [w.extractLsb' 8 8, w.extractLsb' 0 8]

/-- A group's settings: 4 bytes. -/
def GroupForm.bytes (f : GroupForm) : List Byte := [f.filterMs, flagByte f.survey] ++ wordBytes f.refRes

/-- A slot of the band table: 5 bytes, as Set Bands carries it. -/
def BandForm.bytes : BandForm → List Byte
  | some (lo, hi) => [1] ++ wordBytes lo ++ wordBytes hi
  | none => [0, 0, 0, 0, 0]

/-- The part timing settings: 7 bytes. -/
def TimingForm.bytes (f : TimingForm) : List Byte :=
  wordBytes f.settleInMs ++ wordBytes f.conflictMs ++ [f.windowS] ++ wordBytes f.silenceMs

/-- The reporting settings: 2 bytes. -/
def Reporting.bytes (r : Reporting) : List Byte := [r.ratio.byte, r.position.byte]

/-- The survey settings: 6 bytes. -/
def SurveyForm.bytes (f : SurveyForm) : List Byte :=
  wordBytes f.intervalMs ++ wordBytes f.degrade ++ wordBytes f.clear

/-- An object definition: 16 bytes, as Define Object carries it. -/
def ObjectForm.bytes (f : ObjectForm) : List Byte :=
  [f.number, f.kind, f.pointA, f.pointB, f.sense] ++ wordBytes f.tag ++ [f.urgent, f.presence] ++ wordBytes f.transitMs
    ++ [f.chatterLimit] ++ wordBytes f.steadyMs ++ wordBytes f.service

/-- An output definition: 12 bytes, as Define Output carries it. -/
def OutputForm.bytes (f : OutputForm) : List Byte :=
  [f.number] ++ wordBytes f.tag ++ [f.mode, f.presence, f.partner, f.proving, f.expected] ++ wordBytes f.pulseMs
    ++ wordBytes f.provingMs

/-- A list of definitions: how many there are, then each. -/
def counted {α : Type} (bytes : α → List Byte) (l : List α) : List Byte := [u8 l.length] ++ l.flatMap bytes

/-- Every byte of an image between the signature and the check, in the order of R170 (log 7). -/
def Image.bytes (m : Image) : List Byte :=
  [flagByte m.autostart] ++ m.groups.toList.flatMap GroupForm.bytes ++ m.bands.toList.flatMap BandForm.bytes
    ++ m.timing.bytes ++ m.reporting.bytes ++ m.survey.bytes ++ counted ObjectForm.bytes m.objects
    ++ counted OutputForm.bytes m.outputs

/-! ## Reading -/

/-- What reads one part off the front of the bytes: the part and the bytes left, none where the bytes make no such
part. -/
abbrev Reader (α : Type) := List Byte → Option (α × List Byte)

/-- A number of equal parts, one after another. -/
def readMany {α : Type} (r : Reader α) : Nat → Reader (List α)
  | 0, l => some ([], l)
  | n + 1, l => (r l).bind fun x => (readMany r n x.2).map fun xs => (x.1 :: xs.1, xs.2)

/-- A list of definitions with its count before it. -/
def readCounted {α : Type} (r : Reader α) : Reader (List α)
  | n :: l => readMany r n.toNat l
  | [] => none

/-- A list of the length of a table as that table. -/
def tableOf {α : Type} (n : Nat) (l : List α) : Option (Vector α n) :=
  if h : l.toArray.size = n then some ⟨l.toArray, h⟩ else none

/-- A table of equal parts. -/
def readTable {α : Type} (r : Reader α) (n : Nat) : Reader (Vector α n) :=
  fun l => (readMany r n l).bind fun x => (tableOf n x.1).map fun t => (t, x.2)

/-- A flag. -/
def readFlag : Reader Bool
  | b :: l => (flagOfByte b).map fun on => (on, l)
  | [] => none

/-- A group's settings. -/
def readGroup : Reader GroupForm
  | f :: e :: r1 :: r0 :: l => (flagOfByte e).map fun on => ({ filterMs := f, survey := on, refRes := word r1 r0 }, l)
  | _ => none

/-- A slot of the band table; bit 0 of its first byte marks it present (log 16). -/
def readBand : Reader BandForm
  | p :: a1 :: a0 :: b1 :: b0 :: l => some (if present p 0 then some (word a1 a0, word b1 b0) else none, l)
  | _ => none

/-- The part timing settings. -/
def readTiming : Reader TimingForm
  | a1 :: a0 :: c1 :: c0 :: w :: d1 :: d0 :: l =>
    some ({ settleInMs := word a1 a0, conflictMs := word c1 c0, windowS := w, silenceMs := word d1 d0 }, l)
  | _ => none

/-- The reporting settings. -/
def readReporting : Reader Reporting
  | r :: q :: l => (ratioOfByte r).bind fun mode => (positionOfByte q).map fun pos => ({ ratio := mode, position := pos }, l)
  | _ => none

/-- The survey settings. -/
def readSurvey : Reader SurveyForm
  | i1 :: i0 :: d1 :: d0 :: c1 :: c0 :: l =>
    some ({ intervalMs := word i1 i0, degrade := word d1 d0, clear := word c1 c0 }, l)
  | _ => none

/-- An object definition. -/
def readObject : Reader ObjectForm := fun l => (parseDefineObject (l.take 16)).map fun f => (f, l.drop 16)

/-- An output definition. -/
def readOutput : Reader OutputForm := fun l => (parseDefineOutput (l.take 12)).map fun f => (f, l.drop 12)

/-- The image the bytes between the signature and the check make: none where a part is cut short, a byte names none of
the values of its field, or bytes are left over (log 7, log 35). -/
def parseImage (bytes : List Byte) : Option Image :=
  (readFlag bytes).bind fun a =>
  (readTable readGroup 16 a.2).bind fun g =>
  (readTable readBand 8 g.2).bind fun b =>
  (readTiming b.2).bind fun t =>
  (readReporting t.2).bind fun r =>
  (readSurvey r.2).bind fun v =>
  (readCounted readObject v.2).bind fun o =>
  (readCounted readOutput o.2).bind fun x =>
  if x.2 = [] then
    some { autostart := a.1, groups := g.1, bands := b.1, timing := t.1, reporting := r.1, survey := v.1, objects := o.1,
           outputs := x.1 }
  else none

end Sys2Proof.Machine
end

