-- ==== Sys2Proof/Machine/StartUp.lean ====
section
/-! DEFINITION. Part states, reset, image load, START, Store Image and the flashing lamp (section 11). -/

namespace Sys2Proof.Machine

/-! ## Reset -/

/-- The memory a reset leaves: a store cut off leaves a partial image whose check fails, which a load finds IMAGE_BAD
(R173, log 8). -/
def memoryAtReset (s : State) : ConfigMemory :=
  if s.store.isSome then ConfigMemory.partial_ signatureGW s.free else s.memory

/-- A reset is taken: every record is emptied and every setting returns to its default; what is outside the module
(the queue of commands, the contacts, the readbacks) and the rate sampled last stay (R169). -/
def takeReset (s : State) : State :=
  { State.reset with
    pending := s.pending
    free := if s.store.isSome then s.free + 1 else s.free
    inReset := true
    baud := s.baud
    memory := memoryAtReset s
    points := s.points.map fun x => Point.reset x.raw
    readback := s.readback }

/-- The level of a contact at the first sample. -/
def levelOf (made : Bool) : Level := if made then .made else .opn

/-- A reset ends: the clock starts from 0, the straps and the contacts are sampled, image load begins (R169, R11,
R167). -/
def endReset (straps : BitVec 2) (contacts : BitVec 256) (s : State) : State :=
  { s with
    inReset := false
    clock := 0
    baud := baudOfStraps straps
    points := Vector.ofFn fun p : PointId => { s.point p with raw := levelOf (contacts.getLsbD p.val) } }

/-! ## START -/

/-- An expected indication can be reached by an object of this kind, a code only where its slot holds a band (R132,
R171 tests 4 and 5). -/
def reachable (bands : Vector (Option Band) 8) (k : Kind) (v : Indication) : Bool :=
  match k with
  | .single _ | .pair _ => decide (v = .picked ∨ v = .dropped)
  | .coded => match v with
    | .steadyMade | .steadyOpen => true
    | .code n => (bands.get n).isSome
    | _ => false

/-- The partner tests pass: it is defined and names this output (R171 tests 1 and 2). -/
def partnerMutual (s : State) (i : OutId) (x : Output) : Bool :=
  match x.cfg.partner with
  | none => true
  | some j => (s.output j).any fun y => decide (y.cfg.partner = some i)

/-- The proving object tests pass (R171 tests 3 to 5). -/
def provingFit (s : State) (x : Output) : Bool :=
  match x.cfg.proving with
  | none => true
  | some n => (s.object n).any fun o => x.cfg.expected.any (reachable s.bands o.cfg.kind)

/-- Output i, if it is defined, passes the tests of START. -/
def outputPasses (s : State) (i : OutId) : Bool :=
  match s.output i with
  | some x => partnerMutual s i x && provingFit s x
  | none => true

/-- The first output, ascending, that fails a test of START (R171). -/
def firstFailure (s : State) : Option OutId := (List.finRange 64).find? fun i => !outputPasses s i

/-- An object at START (R24, R171). -/
def Obj.started (settleUnits : Nat) (now : Time) (o : Obj) : Obj :=
  { o with admission := .live, evaluated := .shown .unproven, reported := .unproven,
           settleDeadline := some (after now settleUnits) }

/-- START is performed at the present clock value (R171): RUNNING, every object UNPROVEN with its settle-in deadline,
the chatter window, the silence deadline and the survey begun, and the driver check begun on the outputs (log 31). -/
def performStart (s : State) : State :=
  let t := { s with
    partState := .running
    objects := s.objects.map fun x => x.map (Obj.started s.settleUnits s.clock)
    window := some { start := s.clock, next := after s.clock s.windowUnits }
    silenceDeadline := some (after s.clock s.silenceUnits)
    deskSilent := false
    nextAttempt := some (after s.clock s.surveyUnits) }
  (List.finRange 64).foldl (fun u i => sampleDriver i u) t

/-! ## The image -/

/-- Define every object of the image, none when one would be refused (R170). -/
def defineObjects : List ObjectForm → State → Option State
  | [], s => some s
  | f :: fs, s => match defineObjectForm f s with
    | .ok (t, _) => defineObjects fs t
    | .error _ => none

/-- Define every output of the image, none when one would be refused (R170). -/
def defineOutputs : List OutputForm → State → Option State
  | [], s => some s
  | f :: fs, s => match defineOutputForm f s with
    | .ok (t, _) => defineOutputs fs t
    | .error _ => none

/-- The settings of an image with its band table, clamped as the messages clamp them (R170). -/
def applySettings (img : Image) (bands : Vector (Option Band) 8) (s : State) : State :=
  { s with
    groups := img.groups.map GroupForm.group
    bands := bands
    timing := img.timing.apply 0x0F s.timing
    reporting := img.reporting
    surveySet := img.survey.apply 0x07 s.surveySet }

/-- The working configuration from a whole image; none when a definition or the band table would be refused (R170). -/
def applyImage (img : Image) (s : State) : Option State :=
  match bandTable img.bands with
  | .error _ => none
  | .ok (bands, _) => (defineObjects img.objects (applySettings img bands s)).bind (defineOutputs img.outputs)

/-- CONFIGURING begins with an image status; the RUN lamp begins to flash (R168, R174, log 12). -/
def enterConfiguring (status : ImageStatus) (s : State) : State :=
  { s with partState := .configuring, imageStatus := status, flashStart := s.clock,
           flashLit := Config.freeLamp s.free, free := s.free + 1 }

/-- A good image has been applied: autostart performs START where it is set and the checks pass (R170, R171). -/
def afterLoad (autostart : Bool) (s : State) : State :=
  if autostart then
    match firstFailure s with
    | none => performStart { s with imageStatus := .loaded }
    | some _ => enterConfiguring .startFailed s
  else enterConfiguring .loaded s

/-- The image the memory holds and the working configuration it gives: none where the bytes make no image (log 35) or
a definition or the band table would be refused (R170). -/
def loadedImage (s : State) : Option (Image × State) :=
  (parseImage s.memory.content).bind fun img => (applyImage img s).map fun t => (img, t)

/-- The image load ends (R170). -/
def loadEnd (responds : Bool) (s : State) : State :=
  if responds = false ∨ s.memory.signature ≠ signatureGW then enterConfiguring .noImage s
  else if s.memory.checkAgrees = false then enterConfiguring .imageBad s
  else match loadedImage s with
    | none => enterConfiguring .imageBad s
    | some (img, t) => afterLoad img.autostart t

/-- A word of a setting. -/
def w16 (n : Nat) : Word16 := BitVec.ofNat 16 n

/-- The presence marker of a stored object definition: the parameters its kind uses (section 2.1.1). -/
def Kind.presence : Kind → Byte
  | .single _ => 0x0A
  | .pair _ => 0x0B
  | .coded => 0x06

/-- An object definition as the image holds it, with the parameters in force (R172). -/
def ObjDef.form (n : ObjId) (d : ObjDef) : ObjectForm where
  number := u8 n.val
  kind := d.kind.byte
  pointA := u8 d.pointA.val
  pointB := d.kind.pointByte
  sense := d.kind.senseByte
  tag := w16 d.tag
  urgent := flagByte d.urgent
  presence := d.kind.presence
  transitMs := w16 d.transitMs
  chatterLimit := u8 d.chatterLimit
  steadyMs := w16 d.steadyMs
  service := w16 d.service

/-- An output definition as the image holds it, with the lengths in force (R172). -/
def OutDef.form (i : OutId) (d : OutDef) : OutputForm where
  number := u8 i.val
  tag := w16 d.tag
  mode := d.mode.byte
  presence := bitIf 0 d.partner.isSome ||| bitIf 1 d.proving.isSome ||| 0x0C
  partner := numberByte d.partner
  proving := numberByte d.proving
  expected := indicationByte d.expected
  pulseMs := w16 d.pulseMs
  provingMs := w16 d.provingMs

/-- The working configuration copied with an autostart flag (R172). -/
def imageOf (autostart : Bool) (s : State) : Image where
  autostart := autostart
  groups := s.groups.map fun g => { filterMs := u8 g.filterMs, survey := g.survey, refRes := w16 g.refRes }
  bands := s.bands.map fun b => b.map fun x => (w16 x.min, w16 x.max)
  timing := { settleInMs := w16 s.timing.settleInMs, conflictMs := w16 s.timing.conflictMs,
              windowS := u8 s.timing.windowS, silenceMs := w16 s.timing.silenceMs }
  reporting := s.reporting
  survey := { intervalMs := w16 s.surveySet.intervalMs, degrade := w16 s.surveySet.degrade,
              clear := w16 s.surveySet.clear }
  objects := (List.finRange 128).filterMap fun n => (s.object n).map fun o => o.cfg.form n
  outputs := (List.finRange 64).filterMap fun i => (s.output i).map fun x => x.cfg.form i

/-- The memory after a completed store: the new image, or a signature other than GW (R173). -/
def memoryStored (job : StoreJob) (m : ConfigMemory) : ConfigMemory :=
  match job.copy with
  | some img => ConfigMemory.whole img.bytes
  | none => { m with signature := otherThan signatureGW Config.erasedWord }

/-- The memory after a failed store: a partial image, with or without its signature (R173, log 8). -/
def memoryPartial (k : Nat) : ConfigMemory :=
  ConfigMemory.partial_ (if Config.freeBool k then signatureGW else otherThan signatureGW (Config.freeWord k)) k

/-- A store ends: IMAGE_STORED or IMAGE_FAILED is posted (R98, R173). -/
def storeEnded (good : Bool) (job : StoreJob) (s : State) : State :=
  if good then
    request .part .routine
      { s with store := none, memory := memoryStored job s.memory, part := { s.part with imageStored := true } }
  else
    request .part .urgent
      { s with store := none, memory := memoryPartial s.free, free := s.free + 1,
               part := { s.part with imageFailed := true } }

/-! ## The flashing lamp -/

/-- A half period of the RUN lamp has elapsed in CONFIGURING (R174). -/
def flashDue (s : State) : Bool :=
  decide (s.partState = .configuring) && decide (Config.flashUnits ≤ interval s.flashStart s.clock)

/-- The lamp toggles and the next half period begins (R174). -/
def flash (s : State) : State := { s with flashLit := !s.flashLit, flashStart := after s.flashStart Config.flashUnits }

end Sys2Proof.Machine
end

