-- ==== Sys2Proof/Machine/Control.lean ====
section
/-! DEFINITION. What each control message does when it is executed: its checks in the order of its own rule, its
effect, and the answer it is given (R161). -/

namespace Sys2Proof.Machine

/-- What a control message is answered: the code, and the data after it in the shares of its parts. -/
structure Reply where
  code : AnswerCode
  data : List (List Byte)
  deriving DecidableEq, Repr

/-- The outcome of executing a control message: the module afterwards and the reply. -/
abbrev Executed := State × Reply

/-- A refused message changes nothing and is answered with the code alone (R161). -/
def refuse (c : AnswerCode) (s : State) : Executed := (s, { code := c, data := [] })

/-- A message carried out, with no data. -/
def done (c : AnswerCode) (s : State) : Executed := (s, { code := c, data := [] })

/-- A message allowed in CONFIGURING alone (section 10.4). -/
def inConfiguring (s : State) (f : Executed) : Executed :=
  match s.partState with
  | .loading => refuse .busy s
  | .running => refuse .wrongState s
  | .configuring => f

/-- A message allowed in RUNNING alone (section 10.4). -/
def inRunning (s : State) (f : Executed) : Executed :=
  match s.partState with
  | .loading => refuse .busy s
  | .configuring => refuse .wrongState s
  | .running => f

/-- A message allowed in CONFIGURING and in RUNNING (section 10.4). -/
def afterLoading (s : State) (f : Executed) : Executed :=
  match s.partState with
  | .loading => refuse .busy s
  | .configuring | .running => f

/-! ## Definitions and settings -/

/-- A definition or its refusal as an answer. -/
def defined (r : Except AnswerCode (State × Bool)) (s : State) : Executed :=
  match r with
  | .ok (t, moved) => done (acceptedCode moved) t
  | .error c => refuse c s

/-- Define Object (R18). -/
def msgDefineObject (body : List Byte) (s : State) : Executed :=
  inConfiguring s <| match parseDefineObject body with
    | some f => defined (defineObjectForm f s) s
    | none => refuse .badForm s

/-- Define Output (R111). -/
def msgDefineOutput (body : List Byte) (s : State) : Executed :=
  inConfiguring s <| match parseDefineOutput body with
    | some f => defined (defineOutputForm f s) s
    | none => refuse .badForm s

/-- Set Bands (R62). -/
def msgSetBands (body : List Byte) (s : State) : Executed :=
  inConfiguring s <| match parseSetBands body with
    | some f => match bandTable f with
      | .ok (t, moved) => done (acceptedCode moved) { s with bands := t }
      | .error c => refuse c s
    | none => refuse .badForm s

/-- A measurement in progress on a point of the group is discarded (R142, R148). -/
def discardInGroup (g : GroupId) (s : State) : State :=
  if s.measure.any fun m => decide (groupOf m.point = g) then { s with measure := none } else s

/-- Set Group (R9, R142). -/
def msgSetGroup (body : List Byte) (s : State) : Executed :=
  afterLoading s <| match parseSetGroup body with
    | some (b, f) => match groupNumber b with
      | some g => done (acceptedCode f.moved) (discardInGroup g (s.setGroup g f.group))
      | none => refuse .noSuch s
    | none => refuse .badForm s

/-- Set Part Timing (R164). -/
def msgSetPartTiming (body : List Byte) (s : State) : Executed :=
  afterLoading s <| match parseSetPartTiming body with
    | some (p, f) =>
      if p &&& 0x0F = 0 then refuse .badForm s
      else if s.partState = .running ∧ p &&& 0x07 ≠ 0 then refuse .wrongState s
      else done (acceptedCode (f.moved p)) { s with timing := f.apply p s.timing }
    | none => refuse .badForm s

/-- The ratio mode set, with the urgent-run counter zeroed, where it is marked present (R101). -/
def setRatio (mode : Option RatioMode) (s : State) : State :=
  match mode with
  | some m => { s with reporting := { s.reporting with ratio := m }, urgentRun := 0 }
  | none => s

/-- The summary position set where it is marked present (R101). -/
def setPosition (pos : Option SummaryPos) (s : State) : State :=
  match pos with
  | some p => { s with reporting := { s.reporting with position := p } }
  | none => s

/-- An optional named value of a message: none where a present byte names nothing. -/
def namedField {α : Type} (isPresent : Bool) (value : Option α) : Option (Option α) :=
  if isPresent then value.map some else some none

/-- Set Reporting (R101). -/
def msgSetReporting (body : List Byte) (s : State) : Executed :=
  afterLoading s <| match body with
    | [p, r, q] =>
      if p &&& 0x03 = 0 then refuse .badForm s
      else match namedField (present p 0) (ratioOfByte r), namedField (present p 1) (positionOfByte q) with
        | some mode, some pos => done .accepted (setPosition pos (setRatio mode s))
        | _, _ => refuse .badForm s
    | _ => refuse .badForm s

/-- Set Survey (R143). -/
def msgSetSurvey (body : List Byte) (s : State) : Executed :=
  afterLoading s <| match parseSetSurvey body with
    | some (p, f) =>
      if p &&& 0x07 = 0 then refuse .badForm s
      else done (acceptedCode (f.moved p s.surveySet)) { s with surveySet := f.apply p s.surveySet }
    | none => refuse .badForm s

/-! ## Adjustments -/

/-- A present parameter that the object's kind does not use (R33 test 3). -/
def AdjustObjectForm.unused (f : AdjustObjectForm) (k : Kind) : Bool :=
  (present f.presence 0 && decide (k.byte ≠ 1)) || (present f.presence 2 && decide (k.byte ≠ 2))
    || (present f.presence 3 && decide (k.byte = 2))

/-- The body is malformed whatever the object: nothing present, or a present urgent flag that names nothing (R33
test 3, log 15). -/
def AdjustObjectForm.badForm (f : AdjustObjectForm) : Bool :=
  decide (f.presence &&& 0x1F = 0) || (present f.presence 4 && (flagOfByte f.urgent).isNone)

/-- A present field was moved by clamping (R33). -/
def AdjustObjectForm.moved (f : AdjustObjectForm) : Bool :=
  (present f.presence 0 && (clampTransit f.transitMs).moved)
    || (present f.presence 1 && (clampChatter f.chatterLimit.toNat).moved)
    || (present f.presence 2 && (clampSteady f.steadyMs).moved)

/-- A staged place given a present value (R34). -/
def stage (isPresent : Bool) (x : Nat) (old : Option Nat) : Option Nat := if isPresent then some x else old

/-- The staged values after an Adjust Object (R34). -/
def AdjustObjectForm.stage (f : AdjustObjectForm) (t : Staged) : Staged :=
  { transit := Machine.stage (present f.presence 0) (clampTransit f.transitMs).value t.transit,
    chatter := Machine.stage (present f.presence 1) (clampChatter f.chatterLimit.toNat).value t.chatter,
    steady := Machine.stage (present f.presence 2) (clampSteady f.steadyMs).value t.steady }

/-- A service threshold applied at once: a new value clears the latch and is tested, now for a LIVE object; for a
SUSPENDED one the service test pending flag marks that the new threshold has not been tested (R19, R30). -/
def ObjStep.setService (x : Nat) (p : ObjStep) : ObjStep :=
  if x = p.obj.cfg.service then p
  else
    let q := p.map fun o => { o with cfg := { o.cfg with service := x }, serviceLatch := false }
    if p.obj.admission = .live then q.serviceTest else q.map fun o => { o with serviceTest := true }

/-- What an accepted Adjust Object does to the object (R34). -/
def adjustStep (f : AdjustObjectForm) (o : Obj) : ObjStep :=
  let o1 := { o with staged := f.stage o.staged }
  let o2 := if present f.presence 4 then
      { o1 with cfg := { o1.cfg with urgent := (flagOfByte f.urgent).getD o1.cfg.urgent } } else o1
  if present f.presence 3 then o2.begin.setService f.service.toNat else o2.begin

/-- Adjust Object (R33, R34). -/
def msgAdjustObject (body : List Byte) (s : State) : Executed :=
  inRunning s <| match parseAdjustObject body with
    | some f =>
      if f.badForm then refuse .badForm s
      else match s.findObject f.number with
        | some (n, o) =>
          if f.unused o.cfg.kind then refuse .badForm s
          else done (acceptedCode f.moved) (applyStep n (adjustStep f o) s)
        | none => refuse .noSuch s
    | none => refuse .badForm s

/-- Adjust Output (R112). -/
def msgAdjustOutput (body : List Byte) (s : State) : Executed :=
  inRunning s <| match parseAdjustOutput body with
    | some f =>
      if f.presence &&& 0x03 = 0 then refuse .badForm s
      else match s.findOutput f.number with
        | some (i, x) =>
          let moved := (present f.presence 0 && (clampPulse f.pulseMs).moved)
            || (present f.presence 1 && (clampProving f.provingMs).moved)
          done (acceptedCode moved) (s.setOutput i { x with
            stagedPulse := stage (present f.presence 0) (clampPulse f.pulseMs).value x.stagedPulse
            stagedProving := stage (present f.presence 1) (clampProving f.provingMs).value x.stagedProving })
        | none => refuse .noSuch s
    | none => refuse .badForm s

/-! ## START -/

/-- Start (R171). -/
def msgStart (body : List Byte) (s : State) : Executed :=
  inConfiguring s <|
    if body ≠ [] then refuse .badForm s
    else match firstFailure s with
      | some i => (s, { code := .badConfig, data := [[1, u8 i.val]] })
      | none => done .accepted (performStart s)

/-! ## Suspension -/

/-- The evaluated indication a suspension leaves: TRANSIT and CONFLICT-PENDING take the origin (R35). -/
def Obj.suspendedEvaluated (o : Obj) : Evaluated :=
  match o.evaluated with
  | .shown i => .shown i
  | .transit | .conflictPending => .shown o.shown

/-- The record a suspension leaves (R35, R90). -/
def Obj.suspend (o : Obj) : Obj :=
  { o with admission := .suspended, evaluated := o.suspendedEvaluated, quarantined := false, windowCount := 0,
           events := 0, settleDeadline := none, pair := o.pair.idle,
           code := { o.code.emptied with steadyDeadline := none } }

/-- A measurement in progress on a point of the object is discarded (R35, R148). -/
def discardOfObject (n : ObjId) (s : State) : State :=
  if s.measure.any fun m => decide ((s.point m.point).owner = some n) then { s with measure := none } else s

/-- A LIVE object is suspended: its entry is removed and one routine entry requested (R35). -/
def suspend (n : ObjId) (o : Obj) (s : State) : State :=
  request (.object n) .routine (removeEntry (.object n) (discardOfObject n (s.setObject n o.suspend)))

/-- Suspend Object (R35). -/
def msgSuspendObject (body : List Byte) (s : State) : Executed :=
  inRunning s <| match body with
    | [b] => match s.findObject b with
      | some (n, o) => done .accepted (if o.admission = .live then suspend n o s else s)
      | none => refuse .noSuch s
    | _ => refuse .badForm s

/-- The record a resumption leaves (R36). -/
def Obj.resume (deadline : Time) (o : Obj) : Obj :=
  { o with admission := .live, evaluated := .shown .unproven, reported := .unproven, origin := none, settled := none,
           settleDeadline := some deadline, serviceTest := false }

/-- What a resumption does to the object: the pending service test is made now, and a routine entry is requested
(R36). -/
def resumeStep (deadline : Time) (o : Obj) : ObjStep :=
  let p : ObjStep := { obj := o.resume deadline, reason := some .routine, change := none }
  if o.serviceTest then p.serviceTest else p

/-- Resume Object (R36). -/
def msgResumeObject (body : List Byte) (s : State) : Executed :=
  inRunning s <| match body with
    | [b] => match s.findObject b with
      | some (n, o) => done .accepted
          (if o.admission = .suspended then applyStep n (resumeStep (after s.clock s.settleUnits) o) s else s)
      | none => refuse .noSuch s
    | _ => refuse .badForm s

/-! ## Outputs -/

/-- Pulse Output (R115). -/
def msgPulseOutput (body : List Byte) (s : State) : Executed :=
  inRunning s <| match body with
    | [b] => match s.findOutput b with
      | some (i, x) =>
        if x.state = .latched then refuse .wrongState s
        else if x.state = .faulted then refuse .driverFaulted s
        else if excluded s x then refuse .excluded s
        else done .accepted (pulse i s)
      | none => refuse .noSuch s
    | _ => refuse .badForm s

/-- Latch Output (R117). -/
def msgLatchOutput (body : List Byte) (s : State) : Executed :=
  inRunning s <| match body with
    | [b] => match s.findOutput b with
      | some (i, x) =>
        if x.cfg.mode = .pulseOnly then refuse .badForm s
        else if x.state = .faulted then refuse .driverFaulted s
        else if excluded s x then refuse .excluded s
        else done .accepted (latch i x s)
      | none => refuse .noSuch s
    | _ => refuse .badForm s

/-- Release Output, by the state the output is in (R118). -/
def release (i : OutId) (x : Output) (s : State) : Executed :=
  match x.state with
  | .off => done .accepted s
  | .pulsing _ => done .accepted (endPulse i s)
  | .latched => done .accepted (enterState i .off s)
  | .faulted =>
    if s.readbackOn i then refuse .driverFaulted s
    else done .accepted (request (.output i) .routine (enterState i .off s))

/-- Release Output (R118). -/
def msgReleaseOutput (body : List Byte) (s : State) : Executed :=
  inRunning s <| match body with
    | [b] => match s.findOutput b with
      | some (i, x) => release i x s
      | none => refuse .noSuch s
    | _ => refuse .badForm s

/-- The members a Group Pulse names, none when one is out of range or not defined (R119 test 4). -/
def findMembers (s : State) : List Byte → Option (List (OutId × Output))
  | [] => some []
  | b :: bs => match s.findOutput b, findMembers s bs with
    | some m, some ms => some (m :: ms)
    | _, _ => none

/-- Two members are exclusion partners of each other (R119 test 7). -/
def partnersInGroup (ms : List (OutId × Output)) : Bool :=
  ms.any fun m => ms.any fun k => decide (m.2.cfg.partner = some k.1) && decide (k.2.cfg.partner = some m.1)

/-- A member's partner outside the group blocks it (R119 test 8). -/
def blockedOutside (s : State) (ms : List (OutId × Output)) : Bool :=
  ms.any fun m => m.2.cfg.partner.any fun j => !(ms.map Prod.fst).contains j && partnerBlocks s j

/-- Group Pulse (R119). -/
def msgGroupPulse (body : List Byte) (s : State) : Executed :=
  inRunning s <| match parseGroupPulse body with
    | some (names, w) => match findMembers s names with
      | some ms =>
        if ms.any (fun m => decide (m.2.state = .latched)) then refuse .wrongState s
        else if ms.any (fun m => decide (m.2.state = .faulted)) then refuse .driverFaulted s
        else if partnersInGroup ms || blockedOutside s ms then refuse .excluded s
        else done (acceptedCode (clampPulse w).moved) (groupPulse (ms.map Prod.fst) (clampPulse w).value s)
      | none => refuse .noSuch s
    | none => refuse .badForm s

/-- Release All (R121). -/
def msgReleaseAll (body : List Byte) (s : State) : Executed :=
  inRunning s <| if body ≠ [] then refuse .badForm s else done .accepted (releaseEvery s)

/-! ## Snapshot and reads -/

/-- Snapshot (R103). -/
def msgSnapshot (body : List Byte) (s : State) : Executed :=
  inRunning s <|
    if s.snapshot.isSome then refuse .busy s
    else if body ≠ [] then refuse .badForm s
    else done .accepted
      { s with snapshot := some { position := s.reporting.position, cursor := .snapBegin, sent := 0 } }

/-- An accepted read with its data. -/
def answered (c : AnswerCode) (data : List (List Byte)) (s : State) : Executed := (s, { code := c, data := data })

/-- Read Object (R37). -/
def msgReadObject (body : List Byte) (s : State) : Executed :=
  afterLoading s <| match body with
    | [b] => match s.findObject b with
      | some (n, o) => answered .accepted [objectData s n o] s
      | none => refuse .noSuch s
    | _ => refuse .badForm s

/-- Read Output (R129). -/
def msgReadOutput (body : List Byte) (s : State) : Executed :=
  afterLoading s <| match body with
    | [b] => match s.findOutput b with
      | some (i, x) => answered .accepted [outputData s i x] s
      | none => refuse .noSuch s
    | _ => refuse .badForm s

/-- Read Points (R15, R162). -/
def msgReadPoints (body : List Byte) (s : State) : Executed :=
  afterLoading s <| match body with
    | [first, count] =>
      let c := clampField 1 64 count.toNat
      answered (acceptedCode c.moved) (pointsData s (pointNumber first) c.value) s
    | _ => refuse .badForm s

/-- The highest and the count of a health record are set to 0 (R153). -/
def Health.cleared (h : Health) : Health := { h with highest := 0, count := 0 }

/-- The health records of some points cleared (R153). -/
def clearHealth (points : List PointId) (s : State) : State :=
  points.foldl (fun t p => t.setHealth p (t.healthOf p).cleared) s

/-- Read Health (R153): the data as it stands, then the clear where the option is on. -/
def msgReadHealth (body : List Byte) (s : State) : Executed :=
  afterLoading s <| match body with
    | [first, count, option] => match flagOfByte option with
      | some clear =>
        let c := clampField 1 32 count.toNat
        let p := pointNumber first
        answered (acceptedCode c.moved) [healthData s p c.value]
          (if clear then clearHealth (pointRange p c.value) s else s)
      | none => refuse .badForm s
    | _ => refuse .badForm s

/-- Read Clock, in every part state (R1, R165). -/
def msgReadClock (body : List Byte) (s : State) : Executed :=
  if body ≠ [] then refuse .badForm s else answered .accepted [be32 s.clock] s

/-- Read Status, in every part state: the values, then the four link error counts zeroed (R165). -/
def msgReadStatus (body : List Byte) (s : State) : Executed :=
  if body ≠ [] then refuse .badForm s
  else answered .accepted [statusData s] { s with errors := LinkErrors.reset }

/-! ## Image store and reset -/

/-- A store of a copy begins (R172). -/
def beginStore (copy : Option Image) (s : State) : State := { s with store := some { start := s.clock, copy := copy } }

/-- Store Image (R172). -/
def msgStoreImage (body : List Byte) (s : State) : Executed :=
  afterLoading s <|
    if s.store.isSome then refuse .busy s
    else match body with
      | [b] =>
        if b = 0 then done .accepted (beginStore (some (imageOf false s)) s)
        else if b = 1 then done .accepted (beginStore (some (imageOf true s)) s)
        else if b = 2 then done .accepted (beginStore none s)
        else refuse .badForm s
      | _ => refuse .badForm s

/-- Reset: accepted, and from that moment the receiver is closed (R163). -/
def msgReset (body : List Byte) (s : State) : Executed :=
  afterLoading s <|
    if body ≠ [] then refuse .badForm s
    else done .accepted { s with rx := { phase := .hunt, kept := [], closed := true } }

/-- A TYPE that names no control message: nothing is changed (R161). -/
def msgUnknown (_body : List Byte) (s : State) : Executed := refuse .unknownType s

end Sys2Proof.Machine
end

