-- ==== Sys2Proof/Machine/Link.lean ====
section
/-! DEFINITION. The desk link (section 10): the receipt of a good frame, the answer queue, the dispatch by TYPE, and
the receiver that finds frames in the byte stream. -/

namespace Sys2Proof.Machine

/-! ## The receipt of a good frame -/

/-- What executing a control message does. -/
abbrev Handler := List Byte → State → Executed

/-- An answer overrun (R160). -/
def overrun (s : State) : State := { s with errors := { s.errors with overruns := satInc 65535 s.errors.overruns } }

/-- The message is executed and its answer appended (R160). -/
def execute (type : Byte) (h : Handler) (body : List Byte) (s : State) : State :=
  let r := h body s
  { r.1 with answers := r.1.answers ++ [{ echo := type, code := r.2.code, data := r.2.data }] }

/-- A good frame at its receipt time: the desk-silence timer first, then the answer queue, then the message (R160). -/
def receive (type : Byte) (h : Handler) (body : List Byte) (s0 : State) : State :=
  let s := frameReceived s0
  if Config.answerPlaces ≤ s.answers.length then overrun s else execute type h body s

/-- The control message a TYPE names (section 10.4); any other is answered UNKNOWN_TYPE (R161). -/
def handlerOf (type : Byte) : Handler :=
  if type = 0x01 then msgDefineObject
  else if type = 0x02 then msgDefineOutput
  else if type = 0x03 then msgSetBands
  else if type = 0x04 then msgSetGroup
  else if type = 0x05 then msgSetPartTiming
  else if type = 0x06 then msgSetReporting
  else if type = 0x07 then msgSetSurvey
  else if type = 0x08 then msgAdjustObject
  else if type = 0x09 then msgAdjustOutput
  else if type = 0x0A then msgStart
  else if type = 0x0B then msgSuspendObject
  else if type = 0x0C then msgResumeObject
  else if type = 0x10 then msgPulseOutput
  else if type = 0x11 then msgLatchOutput
  else if type = 0x12 then msgReleaseOutput
  else if type = 0x13 then msgGroupPulse
  else if type = 0x14 then msgReleaseAll
  else if type = 0x18 then msgSnapshot
  else if type = 0x20 then msgReadObject
  else if type = 0x21 then msgReadOutput
  else if type = 0x22 then msgReadPoints
  else if type = 0x23 then msgReadHealth
  else if type = 0x24 then msgReadClock
  else if type = 0x25 then msgReadStatus
  else if type = 0x30 then msgStoreImage
  else if type = 0x31 then msgReset
  else msgUnknown

/-! ## The receiver -/

/-- How many kept bytes a complete frame has: SOF and LEN, then LEN + 2 bytes (R156). -/
def frameNeeds (kept : List (Byte × Time)) : Nat :=
  match kept with
  | _ :: len :: _ => len.1.toNat + 4
  | _ => 0

/-- The kept bytes make a complete frame (R156). -/
def frameComplete (kept : List (Byte × Time)) : Bool :=
  decide (2 < kept.length) && decide (frameNeeds kept ≤ kept.length)

/-- The values of the kept bytes. -/
def keptBytes (kept : List (Byte × Time)) : List Byte := kept.map Prod.fst

/-- LEN, TYPE and BODY of a complete frame. -/
def checkedBytes (kept : List (Byte × Time)) : List Byte :=
  ((keptBytes kept).drop 1).take (frameNeeds kept - 3)

/-- The check bytes of a complete frame agree with its check (R155, R156). -/
def checkGood (kept : List (Byte × Time)) : Bool :=
  decide ((keptBytes kept).drop (frameNeeds kept - 2) = be16 (crc (checkedBytes kept)).toNat)

/-- The receiver in HUNT with nothing kept; it stays closed if it was (R156, R163). -/
def hunt (s : State) : State := { s with rx := { s.rx with phase := .hunt, kept := [] } }

/-- A length error is counted (R159). -/
def countLength (s : State) : State := { s with errors := { s.errors with length := satInc 65535 s.errors.length } }

/-- A check error is counted (R159). -/
def countCheck (s : State) : State := { s with errors := { s.errors with check := satInc 65535 s.errors.check } }

/-- An abandoned frame is counted (R159). -/
def countAbandoned (s : State) : State :=
  { s with errors := { s.errors with abandoned := satInc 65535 s.errors.abandoned } }

/-- A complete frame: good, it is executed and the receiver returns to HUNT; otherwise it is discarded with a check
error and its bytes are taken again (R156, R158). The list is the bytes to take again. -/
def completeFrame (kept : List (Byte × Time)) (s : State) : State × List (Byte × Time) :=
  if checkGood kept then
    match checkedBytes kept with
    | _ :: type :: body => (receive type (handlerOf type) body (hunt s), [])
    | _ => (hunt s, [])
  else (countCheck (hunt s), kept.tail)

/-- One byte, with the time it arrived, taken by the receiver; the list is the bytes to take again (R156, R158). -/
def takeByte (b : Byte) (t : Time) (s : State) : State × List (Byte × Time) :=
  if s.rx.closed then (s, [])
  else match s.rx.phase with
    | .hunt =>
      if b = sof then ({ s with rx := { s.rx with phase := .length, kept := [(b, t)] } }, []) else (s, [])
    | .length =>
      if badLen b then (countLength (hunt s), s.rx.kept.tail ++ [(b, t)])
      else ({ s with rx := { s.rx with phase := .collect, kept := s.rx.kept ++ [(b, t)] } }, [])
    | .collect =>
      let kept := s.rx.kept ++ [(b, t)]
      if frameComplete kept then completeFrame kept s
      else ({ s with rx := { s.rx with kept := kept } }, [])

/-- A frame is begun and the gap after its last kept byte has reached 51 units (R157). -/
def gapDue (s : State) : Bool :=
  !s.rx.closed && decide (s.rx.phase ≠ .hunt) &&
    (match s.rx.kept.getLast? with
      | some x => decide (Config.gapUnits ≤ interval x.2 s.clock)
      | none => false)

/-- The bytes are taken in order, each discard taking its bytes again before the rest, with the scheduler's choice after
each byte, so that an answer made in the pass leaves its place when the transmitter is free (R99, R160); when the bytes
are used up, a begun frame whose gap has run is abandoned and counted (R157, R158). The first argument bounds the
work. -/
def takeBytes : Nat → List (Byte × Time) → State → State
  | 0, _, s => s
  | n + 1, [], s => if gapDue s then takeBytes n s.rx.kept.tail (countAbandoned (hunt s)) else s
  | n + 1, x :: xs, s =>
    let r := takeByte x.1 x.2 s
    takeBytes n (r.2 ++ xs) (schedule r.1)

/-- Enough work for the bytes: each discard leaves at least one byte fewer to take again. -/
def workFor (bytes : Nat) : Nat := (bytes + 2) * (bytes + 2)

/-- A byte is taken now, with the pass over kept bytes a discard makes (R156, R158). -/
def receiveByte (b : Byte) (s : State) : State := takeBytes (workFor (s.rx.kept.length + 1)) [(b, s.clock)] s

/-- The begun frame is abandoned (R157, R158). -/
def abandonFrame (s : State) : State := takeBytes (workFor s.rx.kept.length) [] s

/-- The byte would be a bad LEN byte now (R156). -/
def isLengthError (b : Byte) (s : State) : Bool :=
  !s.rx.closed && decide (s.rx.phase = .length) && badLen b

/-- The byte would complete a frame whose check differs (R156). -/
def isCheckError (b : Byte) (s : State) : Bool :=
  let kept := s.rx.kept ++ [(b, s.clock)]
  !s.rx.closed && decide (s.rx.phase = .collect) && frameComplete kept && !checkGood kept

end Sys2Proof.Machine
end

