-- ==== Sys2Proof/Machine/LinkCommands.lean ====
section
/-! DEFINITION. The commands of the desk link: the control messages, each a good frame of its type received now (log 4),
and the steps of the receiver. -/

namespace Sys2Proof.Machine

/-- The end of a step: the scheduler chooses when the transmitter is free (R99, log 11). -/
def finish (s : State) : Result := .next (schedule s)

/-- An event acts when it is due; one that is not due leaves the module as it is (log 3). In reset nothing is due
(R169, log 6). -/
def whenDue (due : Bool) (f : State → State) (s : State) : Result :=
  if !s.inReset && due then finish (f s) else .next s

/-- No frame is received in reset, or after a Reset has closed the receiver (R163, R169). -/
def State.deaf (s : State) : Bool := s.inReset || s.rx.closed

/-- A good frame of a type is received whole now: the receiver is in HUNT with nothing kept, and the frame is handed
for execution (R156, R160, log 4). -/
def controlMessage (type : Byte) (h : Handler) (body : List Byte) (s : State) : Result :=
  if s.deaf then .next s else finish (receive type h body (hunt s))

/-- Define Object (R18). -/
def execDefineObject (body : List Byte) (s : State) : Result := controlMessage 0x01 msgDefineObject body s

/-- Define Output (R111). -/
def execDefineOutput (body : List Byte) (s : State) : Result := controlMessage 0x02 msgDefineOutput body s

/-- Set Bands (R62). -/
def execSetBands (body : List Byte) (s : State) : Result := controlMessage 0x03 msgSetBands body s

/-- Set Group (R9, R142). -/
def execSetGroup (body : List Byte) (s : State) : Result := controlMessage 0x04 msgSetGroup body s

/-- Set Part Timing (R164). -/
def execSetPartTiming (body : List Byte) (s : State) : Result := controlMessage 0x05 msgSetPartTiming body s

/-- Set Reporting (R101). -/
def execSetReporting (body : List Byte) (s : State) : Result := controlMessage 0x06 msgSetReporting body s

/-- Set Survey (R143). -/
def execSetSurvey (body : List Byte) (s : State) : Result := controlMessage 0x07 msgSetSurvey body s

/-- Adjust Object (R33, R34). -/
def execAdjustObject (body : List Byte) (s : State) : Result := controlMessage 0x08 msgAdjustObject body s

/-- Adjust Output (R112). -/
def execAdjustOutput (body : List Byte) (s : State) : Result := controlMessage 0x09 msgAdjustOutput body s

/-- Start (R171). -/
def execStart (body : List Byte) (s : State) : Result := controlMessage 0x0A msgStart body s

/-- Suspend Object (R35). -/
def execSuspendObject (body : List Byte) (s : State) : Result := controlMessage 0x0B msgSuspendObject body s

/-- Resume Object (R36). -/
def execResumeObject (body : List Byte) (s : State) : Result := controlMessage 0x0C msgResumeObject body s

/-- Pulse Output (R115). -/
def execPulseOutput (body : List Byte) (s : State) : Result := controlMessage 0x10 msgPulseOutput body s

/-- Latch Output (R117). -/
def execLatchOutput (body : List Byte) (s : State) : Result := controlMessage 0x11 msgLatchOutput body s

/-- Release Output (R118). -/
def execReleaseOutput (body : List Byte) (s : State) : Result := controlMessage 0x12 msgReleaseOutput body s

/-- Group Pulse (R119). -/
def execGroupPulse (body : List Byte) (s : State) : Result := controlMessage 0x13 msgGroupPulse body s

/-- Release All (R121). -/
def execReleaseAll (body : List Byte) (s : State) : Result := controlMessage 0x14 msgReleaseAll body s

/-- Snapshot (R103). -/
def execSnapshot (body : List Byte) (s : State) : Result := controlMessage 0x18 msgSnapshot body s

/-- Read Object (R37). -/
def execReadObject (body : List Byte) (s : State) : Result := controlMessage 0x20 msgReadObject body s

/-- Read Output (R129). -/
def execReadOutput (body : List Byte) (s : State) : Result := controlMessage 0x21 msgReadOutput body s

/-- Read Points (R15). -/
def execReadPoints (body : List Byte) (s : State) : Result := controlMessage 0x22 msgReadPoints body s

/-- Read Health (R153). -/
def execReadHealth (body : List Byte) (s : State) : Result := controlMessage 0x23 msgReadHealth body s

/-- Read Clock (R1). -/
def execReadClock (body : List Byte) (s : State) : Result := controlMessage 0x24 msgReadClock body s

/-- Read Status (R165). -/
def execReadStatus (body : List Byte) (s : State) : Result := controlMessage 0x25 msgReadStatus body s

/-- Store Image (R172). -/
def execStoreImage (body : List Byte) (s : State) : Result := controlMessage 0x30 msgStoreImage body s

/-- Reset (R163). -/
def execReset (body : List Byte) (s : State) : Result := controlMessage 0x31 msgReset body s

/-- A frame whose TYPE names no control message (R161); a known type is not this event (log 3). -/
def execUnknownType (type : Byte) (body : List Byte) (s : State) : Result :=
  if controlTypes.contains type then .next s else controlMessage type msgUnknown body s

/-- A bad LEN byte is taken in phase LENGTH: discard, count, and the pass over the kept bytes (R156, R158, R159). -/
def execLengthError (len : Byte) (s : State) : Result := whenDue (isLengthError len s) (receiveByte len) s

/-- The last byte of a frame whose check differs is taken (R156, R158, R159). -/
def execCheckError (last : Byte) (s : State) : Result := whenDue (isCheckError last s) (receiveByte last) s

/-- The gap timing of a begun frame runs out (R157 to R159). -/
def execFrameAbandon (s : State) : Result := whenDue (gapDue s) abandonFrame s

/-- A byte is taken on the receive pair (R156). -/
def execByteTaken (b : Byte) (s : State) : Result := if s.deaf then .next s else finish (receiveByte b s)

end Sys2Proof.Machine
end

