-- ==== Sys2Proof/Machine/EventCommands.lean ====
section
/-! DEFINITION. The commands that are events of the relay room, the timings, the survey, start-up and the
transmitter. -/

namespace Sys2Proof.Machine

/-! ## Sense points -/

/-- A raw transition of a point (R5, R7); points are sampled in every part state (R11). -/
def execRawTransition (p : PointId) (s : State) : Result := whenDue true (rawTransition p) s

/-- A filter run is accepted as an edge (R6, R13). -/
def execEdgeAccept (p : PointId) (s : State) : Result := whenDue (edgeDue s p) (acceptEdge p) s

/-! ## Timings of objects -/

/-- The end of settle-in (R25). -/
def execSettleInDeadline (n : ObjId) (s : State) : Result := whenDue (settleDue s n) (settleIn n) s

/-- A transit deadline (R44). -/
def execTransitDeadline (n : ObjId) (s : State) : Result := whenDue (transitDue s n) (transitExpired n) s

/-- A conflict deadline (R55). -/
def execConflictDeadline (n : ObjId) (s : State) : Result := whenDue (conflictDue s n) (conflictExpired n) s

/-- A steady deadline (R74). -/
def execSteadyDeadline (n : ObjId) (s : State) : Result := whenDue (steadyDue s n) (steadyExpired n) s

/-- A boundary of the chatter window (R81, R86). -/
def execChatterBoundary (s : State) : Result := whenDue (boundaryDue s) boundary s

/-! ## Timings and inputs of outputs -/

/-- The end of a pulse (R116). -/
def execPulseEnd (i : OutId) (s : State) : Result := whenDue (pulseEndDue s i) (endPulse i) s

/-- The readback input shows a level; the input itself is outside the module, so a reset does not hold it (R122). -/
def execReadbackChange (i : OutId) (on : Bool) (s : State) : Result := finish (setReadback i on s)

/-- The driver check faults an output (R122, R123). -/
def execDriverCheckFault (i : OutId) (s : State) : Result := whenDue (driverFaultDue s i) (driverFault i) s

/-- The deadline of a proof: it ends UNPROVEN (R136). -/
def execProofDeadline (i : OutId) (s : State) : Result := whenDue (proofDue s i) (endProof i .unproven 0) s

/-- The desk-silence expiry (R125). -/
def execSilenceDeadline (s : State) : Result := whenDue (silenceDue s) silenceExpired s

/-! ## Survey -/

/-- An attempt of the survey (R144, R145). -/
def execSurveyAttempt (s : State) : Result := whenDue (attemptDue s) attempt s

/-- The reference gate ends with a count; one above 65,535 is taken as 65,535 (R146, R147). -/
def execReferenceGateEnd (count : Nat) (s : State) : Result :=
  match referenceDue s with
  | some m => whenDue true (judgeReference m (sat16 count)) s
  | none => .next s

/-- The point gate ends with a count (R146, R149 to R152). -/
def execPointGateEnd (count : Nat) (s : State) : Result :=
  match pointGateDue s with
  | some (m, c) => whenDue true (completeMeasurement m c count) s
  | none => .next s

/-! ## Start-up -/

/-- The image load ends, in LOADING (R170). -/
def execImageLoadEnd (responds : Bool) (s : State) : Result :=
  whenDue (decide (s.partState = .loading)) (loadEnd responds) s

/-- A store in progress ends (R173). -/
def execStoreEnd (good : Bool) (s : State) : Result :=
  match s.store with
  | some job => whenDue true (storeEnded good job) s
  | none => .next s

/-- A reset is taken (R169). -/
def execResetTaken (s : State) : Result := .next (takeReset s)

/-- A reset ends (R169). -/
def execResetEnd (straps : BitVec 2) (contacts : BitVec 256) (s : State) : Result :=
  if s.inReset then .next (endReset straps contacts s) else .next s

/-- The RUN lamp toggles (R174). -/
def execLampFlash (s : State) : Result := whenDue (flashDue s) flash s

/-! ## The transmitter -/

/-- The frame on the line is finished: the next part of the same answer follows it (R162), the reset is taken after a
Reset answer (R163, log 23), or the scheduler chooses (R99). -/
def frameFinished (x : Transmission) (s : State) : State :=
  match x.parts with
  | f :: fs => transmit f fs x.isReset s
  | [] => if x.isReset then takeReset s else { s with tx := none }

/-- The transmitter finishes a frame (R99, log 10). -/
def execFrameSent (s : State) : Result :=
  match s.tx with
  | some x => whenDue true (frameFinished x) s
  | none => .next s

end Sys2Proof.Machine
end

