-- ==== Sys2Proof/Machine/Dispatch.lean ====
section
/-! DEFINITION. One arm for each command: its meaning. -/

namespace Sys2Proof.Machine

def exec (i : Instr) (s : State) : Host.Outcome State Fault Refusal :=
  match i with
  | .defineObject body => Sys2Proof.Machine.execDefineObject body s
  | .defineOutput body => Sys2Proof.Machine.execDefineOutput body s
  | .setBands body => Sys2Proof.Machine.execSetBands body s
  | .setGroup body => Sys2Proof.Machine.execSetGroup body s
  | .setPartTiming body => Sys2Proof.Machine.execSetPartTiming body s
  | .setReporting body => Sys2Proof.Machine.execSetReporting body s
  | .setSurvey body => Sys2Proof.Machine.execSetSurvey body s
  | .adjustObject body => Sys2Proof.Machine.execAdjustObject body s
  | .adjustOutput body => Sys2Proof.Machine.execAdjustOutput body s
  | .start body => Sys2Proof.Machine.execStart body s
  | .suspendObject body => Sys2Proof.Machine.execSuspendObject body s
  | .resumeObject body => Sys2Proof.Machine.execResumeObject body s
  | .pulseOutput body => Sys2Proof.Machine.execPulseOutput body s
  | .latchOutput body => Sys2Proof.Machine.execLatchOutput body s
  | .releaseOutput body => Sys2Proof.Machine.execReleaseOutput body s
  | .groupPulse body => Sys2Proof.Machine.execGroupPulse body s
  | .releaseAll body => Sys2Proof.Machine.execReleaseAll body s
  | .snapshot body => Sys2Proof.Machine.execSnapshot body s
  | .readObject body => Sys2Proof.Machine.execReadObject body s
  | .readOutput body => Sys2Proof.Machine.execReadOutput body s
  | .readPoints body => Sys2Proof.Machine.execReadPoints body s
  | .readHealth body => Sys2Proof.Machine.execReadHealth body s
  | .readClock body => Sys2Proof.Machine.execReadClock body s
  | .readStatus body => Sys2Proof.Machine.execReadStatus body s
  | .storeImage body => Sys2Proof.Machine.execStoreImage body s
  | .reset body => Sys2Proof.Machine.execReset body s
  | .unknownType type body => Sys2Proof.Machine.execUnknownType type body s
  | .lengthError len => Sys2Proof.Machine.execLengthError len s
  | .checkError last => Sys2Proof.Machine.execCheckError last s
  | .frameAbandon => Sys2Proof.Machine.execFrameAbandon s
  | .rawTransition p => Sys2Proof.Machine.execRawTransition p s
  | .edgeAccept p => Sys2Proof.Machine.execEdgeAccept p s
  | .settleInDeadline n => Sys2Proof.Machine.execSettleInDeadline n s
  | .transitDeadline n => Sys2Proof.Machine.execTransitDeadline n s
  | .conflictDeadline n => Sys2Proof.Machine.execConflictDeadline n s
  | .steadyDeadline n => Sys2Proof.Machine.execSteadyDeadline n s
  | .chatterBoundary => Sys2Proof.Machine.execChatterBoundary s
  | .pulseEnd o => Sys2Proof.Machine.execPulseEnd o s
  | .readbackChange o on => Sys2Proof.Machine.execReadbackChange o on s
  | .driverCheckFault o => Sys2Proof.Machine.execDriverCheckFault o s
  | .proofDeadline o => Sys2Proof.Machine.execProofDeadline o s
  | .silenceDeadline => Sys2Proof.Machine.execSilenceDeadline s
  | .surveyAttempt => Sys2Proof.Machine.execSurveyAttempt s
  | .referenceGateEnd count => Sys2Proof.Machine.execReferenceGateEnd count s
  | .pointGateEnd count => Sys2Proof.Machine.execPointGateEnd count s
  | .imageLoadEnd responds => Sys2Proof.Machine.execImageLoadEnd responds s
  | .storeEnd good => Sys2Proof.Machine.execStoreEnd good s
  | .frameSent => Sys2Proof.Machine.execFrameSent s
  | .resetTaken => Sys2Proof.Machine.execResetTaken s
  | .resetEnd straps contacts => Sys2Proof.Machine.execResetEnd straps contacts s
  | .lampFlash => Sys2Proof.Machine.execLampFlash s
  | .byteTaken b => Sys2Proof.Machine.execByteTaken b s

end Sys2Proof.Machine
end

