-- ==== Sys2Proof/Machine/Tick.lean ====
section
/-! DEFINITION. The clock's own step, taken on an empty queue (log 1): an event that is due at the present count is
taken, one at a time in a free order (log 2); when none is due the station clock advances by one (R1, R2). -/

namespace Sys2Proof.Machine

/-- The events due at the sense points. -/
def duePoints (s : State) : List Instr := ((List.finRange 256).filter (edgeDue s)).map .edgeAccept

/-- The events due at the objects and their chatter window. -/
def dueObjects (s : State) : List Instr :=
  ((List.finRange 128).filter (settleDue s)).map .settleInDeadline
    ++ ((List.finRange 128).filter (transitDue s)).map .transitDeadline
    ++ ((List.finRange 128).filter (conflictDue s)).map .conflictDeadline
    ++ ((List.finRange 128).filter (steadyDue s)).map .steadyDeadline
    ++ (if boundaryDue s then [.chatterBoundary] else [])

/-- The events due at the outputs and the desk-silence timer. -/
def dueOutputs (s : State) : List Instr :=
  ((List.finRange 64).filter (pulseEndDue s)).map .pulseEnd
    ++ ((List.finRange 64).filter (driverFaultDue s)).map .driverCheckFault
    ++ ((List.finRange 64).filter (proofDue s)).map .proofDeadline
    ++ (if silenceDue s then [.silenceDeadline] else [])

/-- The events due at the contact survey; the channel's count is a free value (log 9). -/
def dueSurvey (s : State) : List Instr :=
  (if attemptDue s then [.surveyAttempt] else [])
    ++ (if (referenceDue s).isSome then [.referenceGateEnd (Config.freeCount s.free).toNat] else [])
    ++ (if (pointGateDue s).isSome then [.pointGateEnd (Config.freeCount s.free).toNat] else [])

/-- The image load has lasted its longest (R170, log 26). -/
def loadOverdue (s : State) : Bool :=
  decide (s.partState = .loading) && decide (Config.loadUnits ≤ s.clock.toNat)

/-- The store in progress has lasted its longest (R173, log 26). -/
def storeOverdue (s : State) : Bool :=
  s.store.any fun job => decide (Config.storeUnits ≤ interval job.start s.clock)

/-- The events due at start-up, the store, the lamp and the link; what the memory does is a free value (log 9). -/
def dueLink (s : State) : List Instr :=
  (if loadOverdue s then [.imageLoadEnd (Config.freeBool s.free)] else [])
    ++ (if storeOverdue s then [.storeEnd (Config.freeBool s.free)] else [])
    ++ (if flashDue s then [.lampFlash] else [])
    ++ (if gapDue s then [.frameAbandon] else [])
    ++ (if s.tx.any (frameTimeRun s) then [.frameSent] else [])

/-- Every event due at the present count (R2). -/
def dueEvents (s : State) : List Instr := duePoints s ++ dueObjects s ++ dueOutputs s ++ dueSurvey s ++ dueLink s

/-- The end of one 0.1 ms period (R1). -/
def advance (s : State) : State := { s with clock := s.clock + 1 }

/-- A free value has been drawn. -/
def drawn (s : State) : State := { s with free := s.free + 1 }

/-- The clock's own step: nothing in reset (log 6), a due event, or the advance of the clock. -/
def tick (s : State) : Result :=
  if s.inReset then .next s
  else match dueEvents s with
    | [] => .next (advance s)
    | e :: es => exec (freePick s.free e es) (drawn s)

end Sys2Proof.Machine
end

