-- ==== Sys2Proof/Safety.lean ====
section
/-! DEFINITION. What the claims are stated with: when the module takes a control message, how an answer stands in the
next state, the table of section 10.4, the tests of START, and the invariants. -/

namespace Sys2Proof.Safety

open Sys2Proof.Machine

/-! ## Control messages -/

/-- The module takes a control message and has room for its answer (R160, R163, R169). -/
structure Ready (s : State) : Prop where
  outOfReset : s.inReset = false
  receiverOpen : s.rx.closed = false
  room : s.answers.length < 4

/-- Ready, in CONFIGURING. -/
def ReadyConfiguring (s : State) : Prop := Ready s ∧ s.partState = .configuring

/-- Ready, in RUNNING. -/
def ReadyRunning (s : State) : Prop := Ready s ∧ s.partState = .running

/-- Ready, in CONFIGURING or RUNNING. -/
def ReadyLoaded (s : State) : Prop := Ready s ∧ s.partState ≠ .loading

/-- The state in which a message received now is executed: the receiver in HUNT with nothing kept, and the receipt of a
good frame carried out (R124, R125, R156, R174). -/
def received (s : State) : State := frameReceived (hunt s)

/-- One answer appended at the tail of the answer queue (R160). -/
def withAnswer (type : Byte) (code : AnswerCode) (data : List (List Byte)) (s : State) : State :=
  { s with answers := s.answers ++ [{ echo := type, code := code, data := data }] }

/-- The command completes as a message that is answered with this code and data and has this effect; the scheduler's
choice ends the step (R99, R160). -/
def Answers (c : Instr) (type : Byte) (code : AnswerCode) (data : List (List Byte)) (effect : State → State)
    (s : State) : Prop :=
  exec c s = .next (schedule (withAnswer type code data (effect (received s))))

/-- The message is refused with the code: it has no effect (R161). -/
def Refuses (c : Instr) (type : Byte) (code : AnswerCode) (s : State) : Prop := Answers c type code [] id s

/-- ACCEPTED_CLAMPED where a field was moved, ACCEPTED otherwise (R161). -/
def codeFor (moved : Prop) [Decidable moved] : AnswerCode := if moved then .acceptedClamped else .accepted

/-- A row of the table of section 10.4 with the body length of section 10.7. -/
structure MessageRow where
  type : Byte
  make : List Byte → Instr
  length : Nat
  inLoading : Bool
  inConfiguring : Bool
  inRunning : Bool

/-- A message of CONFIGURING alone. -/
def configuringRow (type : Byte) (make : List Byte → Instr) (length : Nat) : MessageRow :=
  { type := type, make := make, length := length, inLoading := false, inConfiguring := true, inRunning := false }

/-- A message of RUNNING alone. -/
def runningRow (type : Byte) (make : List Byte → Instr) (length : Nat) : MessageRow :=
  { type := type, make := make, length := length, inLoading := false, inConfiguring := false, inRunning := true }

/-- A message of CONFIGURING and RUNNING. -/
def loadedRow (type : Byte) (make : List Byte → Instr) (length : Nat) : MessageRow :=
  { type := type, make := make, length := length, inLoading := false, inConfiguring := true, inRunning := true }

/-- A message of every part state. -/
def everyRow (type : Byte) (make : List Byte → Instr) (length : Nat) : MessageRow :=
  { type := type, make := make, length := length, inLoading := true, inConfiguring := true, inRunning := true }

/-- The table of section 10.4, in its order. -/
def messageTable : List MessageRow :=
  [configuringRow 0x01 .defineObject 16, configuringRow 0x02 .defineOutput 12, configuringRow 0x03 .setBands 40,
   loadedRow 0x04 .setGroup 5, loadedRow 0x05 .setPartTiming 8, loadedRow 0x06 .setReporting 3,
   loadedRow 0x07 .setSurvey 7, runningRow 0x08 .adjustObject 10, runningRow 0x09 .adjustOutput 6,
   configuringRow 0x0A .start 0, runningRow 0x0B .suspendObject 1, runningRow 0x0C .resumeObject 1,
   runningRow 0x10 .pulseOutput 1, runningRow 0x11 .latchOutput 1, runningRow 0x12 .releaseOutput 1,
   runningRow 0x13 .groupPulse 7, runningRow 0x14 .releaseAll 0, runningRow 0x18 .snapshot 0]
  ++ [loadedRow 0x20 .readObject 1, loadedRow 0x21 .readOutput 1, loadedRow 0x22 .readPoints 2,
   loadedRow 0x23 .readHealth 3, everyRow 0x24 .readClock 0, everyRow 0x25 .readStatus 0,
   loadedRow 0x30 .storeImage 1, loadedRow 0x31 .reset 0]

/-- The message may be examined further in a part state (section 10.4). -/
def MessageRow.allowed (m : MessageRow) : PartState → Bool
  | .loading => m.inLoading
  | .configuring => m.inConfiguring
  | .running => m.inRunning

/-- What is examined before the body's length: a snapshot or a store in progress (R103, R172). -/
def MessageRow.free (m : MessageRow) (s : State) : Prop :=
  (m.type = 0x18 → s.snapshot = none) ∧ (m.type = 0x30 → s.store = none)

/-! ## Words of the statements -/

/-- A two-byte field, high byte first (R154). -/
def num2 (hi lo : Byte) : Nat := 256 * hi.toNat + lo.toNat

/-- A value lies outside its range. -/
abbrev Outside (lo hi x : Nat) : Prop := x < lo ∨ hi < x

/-- The command completes as a message that leaves this state before its answer and the scheduler's choice. -/
def AnswersWith (c : Instr) (type : Byte) (code : AnswerCode) (data : List (List Byte)) (t s : State) : Prop :=
  exec c s = .next (schedule (withAnswer type code data t))

/-- The events of a step end with the scheduler's choice (R99). -/
def LeadsTo (c : Instr) (s t : State) : Prop := exec c s = .next (schedule t)

/-- The bytes are taken one after another at the receive pair. -/
def takeAll : List Byte → State → Result
  | [], s => .next s
  | b :: bs, s => match exec (.byteTaken b) s with
    | .next t => takeAll bs t
    | r => r

/-- What the receipt of a good frame does (R124, R125, R160, R174). -/
structure ReceiptEffect (s t : State) : Prop where
  receiver : t.rx = { phase := .hunt, kept := [], closed := s.rx.closed }
  lamp : t.goodFrame = true
  restart : s.partState = .running →
    t.silenceDeadline = some (after s.clock (s.timing.silenceMs * 10)) ∧ t.deskSilent = false
  quiet : s.partState ≠ .running → t.silenceDeadline = s.silenceDeadline ∧ t.deskSilent = s.deskSilent
  urgent : t.urgent = s.urgent
  routine : t.routine = if s.partState = .running ∧ s.deskSilent = true ∧ holds s.urgent .part = false
      ∧ holds s.routine .part = false then s.routine ++ [{ source := .part, created := s.clock }] else s.routine
  others : t = { s with rx := t.rx, goodFrame := true, silenceDeadline := t.silenceDeadline,
                        deskSilent := t.deskSilent, routine := t.routine }

/-- The indication a kind takes from the filtered levels of point A and point B (R25). -/
def contactIndication : Kind → Level → Level → Indication
  | .single .front, .made, _ => .picked
  | .single .front, .opn, _ => .dropped
  | .single .back, .made, _ => .dropped
  | .single .back, .opn, _ => .picked
  | .pair _, .made, .opn => .picked
  | .pair _, .opn, .made => .dropped
  | .pair _, .opn, .opn => .lost
  | .pair _, .made, .made => .conflict
  | .coded, .made, _ => .steadyMade
  | .coded, .opn, _ => .steadyOpen

/-- Point B of a PAIR object, point A of another. -/
def secondPoint (d : ObjDef) : PointId :=
  match d.kind with
  | .pair b => b
  | .single _ | .coded => d.pointA

/-- The class of a change of the reported indication into a value (R21). -/
def classInto (urgentFlag : Bool) (v : Indication) : ReportClass :=
  if v = .lost ∨ v = .conflict ∨ v = .noCode ∨ urgentFlag = true then .urgent else .routine

/-- The settled indication of an object after a value is taken (R29). -/
def settledAfter (k : Kind) (v : Indication) (old : Option Rest) : Option Rest :=
  if k = .coded then old
  else if v = .picked then some .picked else if v = .dropped then some .dropped else old

/-- The mismatch start time of output i when its commanded level is taken against the readback (R122). -/
def mismatchNow (s : State) (i : OutId) (commanded : Bool) (old : Option Time) : Option Time :=
  if s.partState = .running then (if commanded = s.readbackOn i then none else old.or (some s.clock)) else old

/-- The definition of an output with its staged lengths applied (R112). -/
def appliedLengths (x : Output) : OutDef :=
  { x.cfg with pulseMs := x.stagedPulse.getD x.cfg.pulseMs, provingMs := x.stagedProving.getD x.cfg.provingMs }

/-- The exclusion check of R114 fails for this output. -/
def ExclusionFails (s : State) (x : Output) : Prop :=
  ∃ j y, x.cfg.partner = some j ∧ s.output j = some y ∧
    (s.driverOn j = true ∨ (y.state = .faulted ∧ s.readbackOn j = true))

/-- The proof of an output has no object to watch at its start: none is named, or it is SUSPENDED or not defined
(R133 test 1). -/
def NothingToWatch (s : State) (proving : Option ObjId) : Prop :=
  ∀ n o, proving = some n → s.object n = some o → o.admission = .suspended

/-- The proving object holds the expected indication now, a moving one its origin (R133 test 2). -/
def AlreadyThere (s : State) (proving : Option ObjId) (expected : Option Indication) : Prop :=
  ∃ n o, proving = some n ∧ s.object n = some o ∧ o.admission = .live ∧ o.shown ≠ .unproven ∧ expected = some o.shown

/-- The point may be measured (R145). -/
def MayBeMeasured (s : State) (p : PointId) : Prop :=
  (s.group (groupOf p)).survey = true ∧ (s.point p).filtered = .made ∧
    ∃ n o, (s.point p).owner = some n ∧ s.object n = some o ∧ o.admission = .live

/-! ## Value codes of section 10.7 -/

/-- An output state. -/
def stateCode : OutState → Byte
  | .off => 0
  | .pulsing _ => 1
  | .latched => 2
  | .faulted => 3

/-- An outcome, or none. -/
def outcomeCode : Option ProofOutcome → Byte
  | none => 0
  | some .proven => 1
  | some .already => 2
  | some .noProof => 3
  | some .unproven => 4
  | some .abandoned => 5
  | some .driverFault => 6

/-- A command kind, or none. -/
def commandCode : Option CmdKind → Byte
  | none => 0
  | some .pulse => 1
  | some .latch => 2
  | some .group => 3

/-! ## What is due -/

/-- A deadline is held and has been reached (R2). -/
def Reached (deadline : Option Time) (now : Time) : Prop := ∃ d, deadline = some d ∧ reached d now = true

/-- Object n is LIVE in RUNNING, with this record (R19, R35). -/
def LiveInRunning (s : State) (n : ObjId) (o : Obj) : Prop :=
  s.partState = .running ∧ s.object n = some o ∧ o.admission = .live

/-- The filter run of point p has lasted its run filter time (R6). -/
def EdgeDue (s : State) (p : PointId) : Prop :=
  (s.point p).raw ≠ (s.point p).filtered ∧ (s.point p).runFilter ≤ interval (s.point p).runStart s.clock

/-- An UNPROVEN object's settle-in deadline has been reached (R25). -/
def SettleDue (s : State) (n : ObjId) : Prop :=
  ∃ o, LiveInRunning s n o ∧ o.evaluated = .shown .unproven ∧ Reached o.settleDeadline s.clock

/-- The transit deadline of an object in TRANSIT has been reached (R44). -/
def TransitDue (s : State) (n : ObjId) : Prop :=
  ∃ o, LiveInRunning s n o ∧ o.evaluated = .transit ∧ Reached o.pair.transitDeadline s.clock

/-- The conflict deadline of an object in CONFLICT-PENDING has been reached (R55). -/
def ConflictDue (s : State) (n : ObjId) : Prop :=
  ∃ o, LiveInRunning s n o ∧ o.evaluated = .conflictPending ∧ Reached o.pair.conflictDeadline s.clock

/-- The steady deadline of a CODED object has been reached (R74). -/
def SteadyDue (s : State) (n : ObjId) : Prop :=
  ∃ o, LiveInRunning s n o ∧ o.cfg.kind = .coded ∧ Reached o.code.steadyDeadline s.clock

/-- The next boundary of the chatter window has been reached in RUNNING (R81). -/
def BoundaryDue (s : State) : Prop :=
  s.partState = .running ∧ ∃ w, s.window = some w ∧ reached w.next s.clock = true

/-- The pulse end time of an output in PULSING has been reached (R116). -/
def PulseEndDue (s : State) (i : OutId) : Prop :=
  ∃ x e, s.output i = some x ∧ x.state = .pulsing e ∧ reached e s.clock = true

/-- The mismatch of an output that is not FAULTED has lasted 20 ms in RUNNING (R122). -/
def DriverFaultDue (s : State) (i : OutId) : Prop :=
  s.partState = .running ∧ ∃ x m, s.output i = some x ∧ x.state ≠ .faulted ∧ x.mismatch = some m
    ∧ 200 ≤ interval m s.clock

/-- The deadline of a WATCHING proof has been reached (R136). -/
def ProofDue (s : State) (i : OutId) : Prop := (s.proof i).phase = .watching ∧ Reached (s.proof i).deadline s.clock

/-- The silence deadline has been reached in RUNNING (R125). -/
def SilenceDue (s : State) : Prop := s.partState = .running ∧ Reached s.silenceDeadline s.clock

/-- The survey's next attempt time has been reached in RUNNING (R144). -/
def AttemptDue (s : State) : Prop := s.partState = .running ∧ Reached s.nextAttempt s.clock

/-- The reference gate of the measurement in progress has ended (R146). -/
def ReferenceDue (s : State) : Prop := ∃ m, s.measure = some m ∧ m.phase = .reference ∧ 100 ≤ interval m.start s.clock

/-- The point gate of the measurement in progress has ended (R146). -/
def PointGateDue (s : State) : Prop :=
  ∃ m c, s.measure = some m ∧ m.phase = .point c ∧ 200 ≤ interval m.start s.clock

/-- A half period of the flashing RUN lamp has run in CONFIGURING (R174). -/
def FlashDue (s : State) : Prop := s.partState = .configuring ∧ 5000 ≤ interval s.flashStart s.clock

/-- A frame is begun at an open receiver, and the gap after its last kept byte has reached 51 units (R157). -/
def GapDue (s : State) : Prop :=
  s.rx.closed = false ∧ s.rx.phase ≠ .hunt ∧ ∃ x, s.rx.kept.getLast? = some x ∧ 51 ≤ interval x.2 s.clock

/-- The line time of the frame on the line has run: ten bit times a byte at the selected rate (R154, R167, log 10). -/
def LineTimeRun (s : State) : Prop :=
  let bitsPerSecond : Nat := match s.baud with
    | .b19200 => 19200
    | .b38400 => 38400
    | .b57600 => 57600
    | .b115200 => 115200
  ∃ x, s.tx = some x ∧ x.frame.bytes.length * 10 * 10000 ≤ interval x.start s.clock * bitsPerSecond

/-- What the clock's own step may take at the present count: each event where the condition of its rule holds, a load
and a store at their longest (log 26), with a free count or a free answer from outside (log 9); no other command. -/
def DueNow (s : State) : Instr → Prop
  | .edgeAccept p => EdgeDue s p
  | .settleInDeadline n => SettleDue s n
  | .transitDeadline n => TransitDue s n
  | .conflictDeadline n => ConflictDue s n
  | .steadyDeadline n => SteadyDue s n
  | .chatterBoundary => BoundaryDue s
  | .pulseEnd i => PulseEndDue s i
  | .driverCheckFault i => DriverFaultDue s i
  | .proofDeadline i => ProofDue s i
  | .silenceDeadline => SilenceDue s
  | .surveyAttempt => AttemptDue s
  | .referenceGateEnd c => ReferenceDue s ∧ c = (Config.freeCount s.free).toNat
  | .pointGateEnd c => PointGateDue s ∧ c = (Config.freeCount s.free).toNat
  | .imageLoadEnd r => (s.partState = .loading ∧ 15000 ≤ s.clock.toNat) ∧ r = Config.freeBool s.free
  | .storeEnd g => (∃ job, s.store = some job ∧ 30000 ≤ interval job.start s.clock) ∧ g = Config.freeBool s.free
  | .lampFlash => FlashDue s
  | .frameAbandon => GapDue s
  | .frameSent => LineTimeRun s
  | _ => False

/-! ## Definitions taken from the image -/

/-- The fields of an object definition that must name a value name one (R18 test 3; the urgent flag by log 15). -/
def ObjectFits (f : ObjectForm) : Prop :=
  f.kind.toNat ≤ 2 ∧ (f.kind = 0 → f.sense.toNat ≤ 1) ∧ (f.kind = 1 → f.pointA ≠ f.pointB) ∧ f.urgent.toNat ≤ 1

/-- An object definition is refused (R18). -/
def ObjectRefused (s : State) (f : ObjectForm) : Prop :=
  ¬ ObjectFits f ∨ 127 < f.number.toNat ∨ (∃ n : ObjId, n.val = f.number.toNat ∧ s.object n ≠ none)
    ∨ (s.point (pointNumber f.pointA)).owner ≠ none ∨ (f.kind = 1 ∧ (s.point (pointNumber f.pointB)).owner ≠ none)

/-- The definition an object form gives, clamped, with its defaults (R18, section 2.1.1); a parameter the kind does not
use is held as 0 (log 25). -/
def objectGiven (f : ObjectForm) : ObjDef where
  kind := if f.kind = 0 then .single (if f.sense = 0 then .front else .back)
    else if f.kind = 1 then .pair (pointNumber f.pointB) else .coded
  pointA := pointNumber f.pointA
  tag := min f.tag.toNat 4095
  urgent := decide (f.urgent = 1)
  transitMs := if f.kind = 1 then (if f.presence.getLsbD 0 = true then clamp 20 5000 f.transitMs.toNat else 400) else 0
  chatterLimit := if f.presence.getLsbD 1 = true
    then (if f.chatterLimit = 0 then 0 else clamp 2 60 f.chatterLimit.toNat) else 12
  steadyMs := if f.kind = 2 then (if f.presence.getLsbD 2 = true then clamp 200 10000 f.steadyMs.toNat else 1500) else 0
  service := if f.kind = 2 then 0 else if f.presence.getLsbD 3 = true then f.service.toNat else 0

/-- The record of an object at definition (R19, R38, R66, R82). -/
def freshObject (d : ObjDef) : Obj where
  cfg := d
  staged := { transit := none, chatter := none, steady := none }
  admission := .live
  evaluated := .shown .unproven
  reported := .unproven
  origin := none
  settled := none
  lastChange := 0
  changes := 0
  events := 0
  quarantined := false
  degraded := false
  opCount := 0
  serviceLatch := false
  serviceTest := false
  windowCount := 0
  settleDeadline := none
  pair := { transitStart := none, transitDeadline := none, conflictStart := none, conflictDeadline := none,
            lastPickUp := 0, lastDropAway := 0, lastDir := none }
  code := { anchor := none, periods := [], candidate := none, lastRate := 0, lastOnTime := 0, lastDuty := 0,
            steadyDeadline := none }

/-- The byte names an expected indication of R110. -/
def NamesExpected (b : Byte) : Prop :=
  b = 0x01 ∨ b = 0x02 ∨ b = 0x05 ∨ b = 0x06 ∨ (0x11 ≤ b.toNat ∧ b.toNat ≤ 0x18)

/-- An output definition is refused (R111). -/
def OutputRefused (s : State) (f : OutputForm) : Prop :=
  1 < f.mode.toNat ∨ (f.presence.getLsbD 0 = true ∧ f.partner = f.number)
    ∨ (f.presence.getLsbD 1 = true ∧ ¬ NamesExpected f.expected) ∨ 63 < f.number.toNat
    ∨ (f.presence.getLsbD 0 = true ∧ 63 < f.partner.toNat) ∨ (f.presence.getLsbD 1 = true ∧ 127 < f.proving.toNat)
    ∨ ∃ i : OutId, i.val = f.number.toNat ∧ s.output i ≠ none

/-- The definition an output form gives, clamped, with its defaults (R110, R111). -/
structure OutputGives (f : OutputForm) (d : OutDef) : Prop where
  tag : d.tag = min f.tag.toNat 4095
  mode : d.mode = .latchable ↔ f.mode = 1
  pulse : d.pulseMs = if f.presence.getLsbD 2 = true then clamp 20 10000 f.pulseMs.toNat else 500
  time : d.provingMs = if f.presence.getLsbD 3 = true then clamp 100 60000 f.provingMs.toNat else 8000
  partner : if f.presence.getLsbD 0 = true then ∃ j : OutId, d.partner = some j ∧ j.val = f.partner.toNat
    else d.partner = none
  proving : if f.presence.getLsbD 1 = true
    then ∃ n v, d.proving = some n ∧ n.val = f.proving.toNat ∧ d.expected = some v ∧ v.byte = f.expected
    else d.proving = none ∧ d.expected = none

/-- The record of an output at definition (R111, R122, R126). -/
def freshOutput (d : OutDef) : Output where
  cfg := d
  stagedPulse := none
  stagedProving := none
  state := .off
  mismatch := none
  result := { outcome := none, kind := none, start := 0, time := 0, unsent := false, lost := 0 }

/-- The band table of an image would be refused: a present slot's minimum exceeds its maximum, or two present slots
share a rate, after clamping (R62, R170). -/
def BandsRefused (bands : Vector BandForm 8) : Prop :=
  (∃ i lo hi, bands.get i = some (lo, hi) ∧ clamp 1 999 hi.toNat < clamp 1 999 lo.toNat)
    ∨ ∃ i j a b c d, i ≠ j ∧ bands.get i = some (a, b) ∧ bands.get j = some (c, d)
      ∧ clamp 1 999 a.toNat ≤ clamp 1 999 d.toNat ∧ clamp 1 999 c.toNat ≤ clamp 1 999 b.toNat

/-- The settings a good image leaves, before its definitions are taken: t is s with the groups, the band table and the
part, reporting and survey settings of the image, clamped as the messages clamp them (R170). -/
structure SettingsOf (img : Image) (s t : State) : Prop where
  others : t = { s with groups := t.groups, bands := t.bands, timing := t.timing, reporting := t.reporting,
                        surveySet := t.surveySet }
  groups : ∀ g, t.group g = { filterMs := clamp 1 50 (img.groups.get g).filterMs.toNat
                              survey := (img.groups.get g).survey
                              refRes := clamp 100 10000 (img.groups.get g).refRes.toNat
                              refFault := false }
  bands : ∀ i, t.bands.get i = (img.bands.get i).map fun x =>
    { min := clamp 1 999 x.1.toNat, max := clamp 1 999 x.2.toNat }
  timing : t.timing = { settleInMs := clamp 200 10000 img.timing.settleInMs.toNat
                        conflictMs := clamp 10 500 img.timing.conflictMs.toNat
                        windowS := clamp 1 10 img.timing.windowS.toNat
                        silenceMs := clamp 500 30000 img.timing.silenceMs.toNat }
  reporting : t.reporting = img.reporting
  survey : t.surveySet.intervalMs = clamp 50 60000 img.survey.intervalMs.toNat
  degrade : t.surveySet.degrade = clamp 1 65534 img.survey.degrade.toNat
  clear : t.surveySet.clear = if t.surveySet.degrade ≤ clamp 0 65533 img.survey.clear.toNat
    then t.surveySet.degrade - 1 else clamp 0 65533 img.survey.clear.toNat

/-- Object n is defined on its points by a form: t is s with its record at definition and the ownership of its points
(R12, R17, R170). -/
structure DefinesObject (f : ObjectForm) (n : ObjId) (s t : State) : Prop where
  others : t = { s with objects := t.objects, points := t.points }
  record : t.object n = some (freshObject (objectGiven f))
  rest : ∀ m, m ≠ n → t.object m = s.object m
  points : ∀ p, t.point p = if p = pointNumber f.pointA ∨ (f.kind = 1 ∧ p = pointNumber f.pointB)
    then { s.point p with owner := some n } else s.point p

/-- Output i is defined by a form: t is s with its record at definition and an empty proof record (R110, R131, R170). -/
structure DefinesOutput (f : OutputForm) (i : OutId) (s t : State) : Prop where
  others : t = { s with outputs := t.outputs, proofs := t.proofs }
  record : ∃ d, OutputGives f d ∧ t.output i = some (freshOutput d)
  proof : t.proof i = { phase := .none, kind := none, start := 0, object := none, expected := none, deadline := none }
  rest : ∀ j, j ≠ i → t.output j = s.output j ∧ t.proof j = s.proof j

/-- START has been performed from s at the present clock value (R24, R81, R122, R124, R144, R171; log 31). -/
structure StartEffect (s t : State) : Prop where
  others : t = { s with
    partState := .running
    objects := t.objects
    outputs := t.outputs
    window := some { start := s.clock, next := after s.clock (s.timing.windowS * 10000) }
    silenceDeadline := some (after s.clock (s.timing.silenceMs * 10))
    deskSilent := false
    nextAttempt := some (after s.clock (s.surveySet.intervalMs * 10)) }
  objects : ∀ n, t.object n = (s.object n).map fun o =>
    { o with admission := .live, evaluated := .shown .unproven, reported := .unproven,
             settleDeadline := some (after s.clock (s.timing.settleInMs * 10)) }
  outputs : ∀ i, t.output i = (s.output i).map fun x =>
    if x.state = .faulted then { x with mismatch := none }
    else { x with mismatch := if x.state.energised = s.readbackOn i then none else x.mismatch.or (some s.clock) }

/-- Every setting of the working configuration is in its range (R9, R23, R39, R61, R80, R124, R142, R143). -/
structure SettingsInRange (s : State) : Prop where
  groups : ∀ g, (1 ≤ (s.group g).filterMs ∧ (s.group g).filterMs ≤ 50)
    ∧ 100 ≤ (s.group g).refRes ∧ (s.group g).refRes ≤ 10000
  bands : ∀ i b, s.bands.get i = some b → (1 ≤ b.min ∧ b.min ≤ 999) ∧ 1 ≤ b.max ∧ b.max ≤ 999
  settle : 200 ≤ s.timing.settleInMs ∧ s.timing.settleInMs ≤ 10000
  conflict : 10 ≤ s.timing.conflictMs ∧ s.timing.conflictMs ≤ 500
  window : 1 ≤ s.timing.windowS ∧ s.timing.windowS ≤ 10
  silence : 500 ≤ s.timing.silenceMs ∧ s.timing.silenceMs ≤ 30000
  interval_ : 50 ≤ s.surveySet.intervalMs ∧ s.surveySet.intervalMs ≤ 60000
  degrade : 1 ≤ s.surveySet.degrade ∧ s.surveySet.degrade ≤ 65534
  clear : s.surveySet.clear < s.surveySet.degrade

/-! ## The receiver's pass -/

/-- The bytes are taken in order, each discard's bytes again before the rest, with the scheduler's choice after each, until
none is left and no gap has run out (R99, R156 to R158). -/
inductive Pass : List (Byte × Time) → State → State → Prop where
  | finished (s : State) (quiet : gapDue s = false) : Pass [] s s
  | abandoned (s t : State) (gap : gapDue s = true) (rest : Pass s.rx.kept.tail (countAbandoned (hunt s)) t) :
      Pass [] s t
  | byte (b : Byte) (at_ : Time) (more : List (Byte × Time)) (s t : State)
      (rest : Pass ((takeByte b at_ s).2 ++ more) (schedule (takeByte b at_ s).1) t) : Pass ((b, at_) :: more) s t

/-! ## The tests of START -/

/-- The tests of R171 on output i, in their order: the partner is defined, it names this output, the proving object is
defined, and it can reach the expected indication, a code only where its slot holds a band. -/
def PassesStart (s : State) (i : OutId) : Prop :=
  ∀ x, s.output i = some x →
    (∀ j, x.cfg.partner = some j → ∃ y, s.output j = some y ∧ y.cfg.partner = some i)
    ∧ (∀ n, x.cfg.proving = some n → ∃ o v, s.object n = some o ∧ x.cfg.expected = some v ∧
        ((o.cfg.kind ≠ .coded ∧ (v = .picked ∨ v = .dropped))
          ∨ (o.cfg.kind = .coded ∧ (v = .steadyMade ∨ v = .steadyOpen
              ∨ ∃ k, v = .code k ∧ (s.bands.get k).isSome = true))))

/-! ## Invariants -/

/-- The source of an entry is defined (R92). -/
def SourceDefined (s : State) : Source → Prop
  | .object n => (s.object n).isSome = true
  | .output i => (s.output i).isSome = true
  | .part => True

/-- No source is held more than once in the two queues taken together (R92). -/
def EachSourceOnce (s : State) : Prop := ((s.urgent ++ s.routine).map Entry.source).Nodup

/-- The queues and the snapshot name defined sources only. -/
structure SourcesDefined (s : State) : Prop where
  queued : ∀ e ∈ s.urgent ++ s.routine, SourceDefined s e.source
  snapshot : ∀ p src, s.snapshot = some p → p.cursor.source = some src → SourceDefined s src

/-- The transmitter is idle only when nothing is waiting (R99). -/
def IdleMeansQuiet (s : State) : Prop := s.tx = none → s.waiting = false

/-- Outputs are energised in RUNNING alone (R113). -/
def EnergisedOnlyRunning (s : State) : Prop := s.partState ≠ .running → ∀ i, s.driverOn i = false

/-- No output names itself as its partner (R111), and in RUNNING every partnership is mutual (R110, R171). -/
structure PartnersFit (s : State) : Prop where
  notItself : ∀ i x, s.output i = some x → x.cfg.partner ≠ some i
  mutual_ : s.partState = .running → ∀ i x j, s.output i = some x → x.cfg.partner = some j →
    ∃ y, s.output j = some y ∧ y.cfg.partner = some i

/-- Two outputs that are exclusion partners are never both energised (R114). -/
def NeverBothEnergised (s : State) : Prop :=
  ∀ i x j, s.output i = some x → x.cfg.partner = some j → ¬ (s.driverOn i = true ∧ s.driverOn j = true)

/-- The counts of an object are in their ranges (R22, R29, R59, R64, R65, R69, R82). -/
structure ObjInRange (o : Obj) : Prop where
  changes : o.changes ≤ 255
  windowCount : o.windowCount ≤ 255
  opCount : o.opCount ≤ 65535
  lastPickUp : o.pair.lastPickUp ≤ 65535
  lastDropAway : o.pair.lastDropAway ≤ 65535
  periods : o.code.periods.length ≤ 4
  lastRate : o.code.lastRate ≤ 999
  lastDuty : o.code.lastDuty ≤ 100

/-- A health record is in its ranges (R150). -/
structure HealthInRange (h : Health) : Prop where
  last : h.last ≤ 65535
  highest : h.highest ≤ 65535
  count : h.count ≤ 65535
  overCount : h.overCount ≤ 2

/-- The counts of the link are in their ranges (R100, R159, R160). -/
structure LinkInRange (s : State) : Prop where
  length : s.errors.length ≤ 65535
  check : s.errors.check ≤ 65535
  abandoned : s.errors.abandoned ≤ 65535
  overruns : s.errors.overruns ≤ 65535
  answers : s.answers.length ≤ 4
  urgentRun : s.urgentRun ≤ 8

/-- The counts of the points, objects, outputs, health records, measurement and link are within their bounds (R7, R126,
R127, R146, and those of the parts). -/
structure CountsInRange (s : State) : Prop where
  reference : ∀ m c, s.measure = some m → m.phase = .point c → c ≤ 65535
  points : ∀ p, (s.point p).glitch ≤ 255
  objects : ∀ n o, s.object n = some o → ObjInRange o
  outputs : ∀ i x, s.output i = some x → x.result.lost ≤ 255 ∧ x.result.time ≤ 65535
  health : ∀ p, HealthInRange (s.healthOf p)
  link : LinkInRange s

/-- A proof in flight belongs to a defined output and is in RUNNING (R131, R141); a WATCHING proof has its deadline and
its object, and no other proof has one (R131). -/
structure ProofsFit (s : State) : Prop where
  running : ∀ i, (s.proof i).phase ≠ .none → s.partState = .running ∧ (s.output i).isSome = true
  deadline : ∀ i, (s.proof i).deadline.isSome = true ↔ (s.proof i).phase = .watching

/-- The owners agree with the definitions: point p is owned by n exactly when n is defined on p (R12). -/
def OwnersAgree (s : State) : Prop :=
  ∀ p n, (s.point p).owner = some n ↔ ∃ o, s.object n = some o ∧ p ∈ o.cfg.points

/-- A PAIR object names two different points (R18). -/
def PairPointsDiffer (s : State) : Prop := ∀ n o b, s.object n = some o → o.cfg.kind = .pair b → o.cfg.pointA ≠ b

/-- The transit and conflict fields are none. -/
def PairQuiet (o : Obj) : Prop :=
  o.pair.transitStart = none ∧ o.pair.transitDeadline = none ∧ o.pair.conflictStart = none ∧
    o.pair.conflictDeadline = none

/-- The row of the table of section 3.1 that an evaluated indication of a PAIR object names, with the filtered levels
of its two points (R38). -/
def PairRow (a b : Level) (o : Obj) : Prop :=
  match o.evaluated with
  | .shown .picked => a = .made ∧ b = .opn ∧ o.origin = some .picked ∧ PairQuiet o
  | .shown .dropped => a = .opn ∧ b = .made ∧ o.origin = some .dropped ∧ PairQuiet o
  | .transit => a = .opn ∧ b = .opn ∧ o.origin.isSome = true ∧ o.pair.transitStart.isSome = true ∧
      o.pair.transitDeadline.isSome = true ∧ o.pair.conflictStart = none ∧ o.pair.conflictDeadline = none
  | .shown .lost => a = .opn ∧ b = .opn ∧ o.pair.transitDeadline = none ∧ o.pair.conflictStart = none ∧
      o.pair.conflictDeadline = none ∧ (o.pair.transitStart.isSome = true ↔ o.origin.isSome = true)
  | .conflictPending => a = .made ∧ b = .made ∧ o.origin.isSome = true ∧ o.pair.conflictStart.isSome = true ∧
      o.pair.conflictDeadline.isSome = true ∧ o.pair.transitStart = none ∧ o.pair.transitDeadline = none
  | .shown .conflict => a = .made ∧ b = .made ∧ o.origin = none ∧ PairQuiet o
  | .shown .unproven | .shown .steadyMade | .shown .steadyOpen | .shown (.code _) | .shown .noCode => False

/-- A PAIR object that is UNPROVEN holds no origin, no transit and no conflict; a SUSPENDED one holds no transit and no
conflict (R25, R35, R36, R38). -/
structure PairAtRest (o : Obj) : Prop where
  unproven : o.evaluated = .shown .unproven → o.origin = none ∧ PairQuiet o
  suspended : o.admission = .suspended → PairQuiet o

/-- The agreement of section 3.1 for every PAIR object, with what it rests on: owners, differing points, and objects
unclassified before RUNNING (R12, R18, R19, R38). -/
structure PairsAgree (s : State) : Prop where
  owners : OwnersAgree s
  points : PairPointsDiffer s
  fresh : s.partState ≠ .running → ∀ n o, s.object n = some o →
    o.admission = .live ∧ o.evaluated = .shown .unproven
  rest : ∀ n o b, s.object n = some o → o.cfg.kind = .pair b → PairAtRest o
  rows : ∀ n o b, s.object n = some o → o.cfg.kind = .pair b → o.admission = .live →
    o.evaluated ≠ .shown .unproven → PairRow (s.point o.cfg.pointA).filtered (s.point b).filtered o

end Sys2Proof.Safety
end

