-- ==== Sys2Proof/Certificates/Slice0/Obligations.lean ====
section
/-! DEFINITION. The statements for the provers. Each is about every state its hypotheses allow; the hypotheses are on
the state and the operands alone. -/

open Sys2Proof Sys2Proof.Machine Sys2Proof.Safety

/-! ## The step -/

/-- The command at the front of the queue is run with the queue's rest. -/
def Obligations.StepRunsFrontCommand : Prop :=
  ∀ (c : Instr) (rest : List Instr) (s : State),
    step { s with pending := c :: rest } = exec c { s with pending := rest }

/-- On an empty queue: nothing in reset (log 6), the clock's advance when nothing is due, otherwise one due event with
one free value drawn (log 1, log 2: the model's choice). An event is due exactly when the condition of its rule holds
at the present count (R2, R6, R25, R44, R55, R74, R81, R116, R122, R125, R136, R144, R146, R157, R174): a load and a
store at their longest (R170, R173, log 26), the end of a frame when its line time has run (R99, R154, log 10). A
deadline set less than 2^31 units ahead of a clock value has been reached from that many units after the value on, for
the 2^31 units that follow (R2, log 21). -/
def Obligations.EmptyQueueStep : Prop :=
  (∀ s : State, s.pending = [] →
    (s.inReset = true → step s = .next s)
    ∧ (s.inReset = false → dueEvents s = [] → step s = .next { s with clock := s.clock + 1 })
    ∧ (s.inReset = false → dueEvents s ≠ [] →
        ∃ e ∈ dueEvents s, step s = exec e { s with free := s.free + 1 }))
  ∧ (∀ (s : State) (e : Instr), e ∈ dueEvents s ↔ DueNow s e)
  ∧ ∀ (t now : Time) (d : Nat), d < 2147483648 →
      (reached (after t d) now = true ↔ d ≤ interval t now ∧ interval t now < d + 2147483648)

/-- The values the spec gives for reset, at State.reset, and the model's invariants, which hold there. -/
def Obligations.ResetState : Prop :=
  let r := State.reset
  (r.clock = 0 ∧ r.partState = .loading ∧ r.imageStatus = .noImage ∧ r.store = none ∧ r.goodFrame = false
    ∧ (∀ p, (r.point p).filtered = .opn ∧ (r.point p).runStart = 0 ∧ (r.point p).runFilter = 40
        ∧ (r.point p).lastEdge = 0 ∧ (r.point p).glitch = 0 ∧ (r.point p).owner = none)
    ∧ (∀ g, r.group g = { filterMs := 4, survey := false, refRes := 1000, refFault := false })
    ∧ r.timing = { settleInMs := 1000, conflictMs := 40, windowS := 2, silenceMs := 3000 }
    ∧ r.reporting = { ratio := .r4, position := .last } ∧ r.urgentRun = 0
    ∧ r.surveySet = { intervalMs := 1000, degrade := 500, clear := 300 }
    ∧ (∀ i, r.bands.get i = none) ∧ (∀ n, r.object n = none) ∧ (∀ i, r.output i = none) ∧ r.window = none
    ∧ r.urgent = [] ∧ r.routine = [] ∧ r.snapshot = none
    ∧ r.part = { refFault := 0, refRestored := 0, deskSilence := false, imageStored := false, imageFailed := false }
    ∧ r.deskSilent = false ∧ r.silenceDeadline = none
    ∧ (∀ i, r.proof i = { phase := .none, kind := none, start := 0, object := none, expected := none, deadline := none })
    ∧ r.nextAttempt = none ∧ r.surveyCursor = 0 ∧ r.measure = none
    ∧ (∀ p, r.healthOf p = { last := 0, highest := 0, count := 0, overCount := 0, degraded := false })
    ∧ r.rx = { phase := .hunt, kept := [], closed := false }
    ∧ r.errors = { length := 0, check := 0, abandoned := 0, overruns := 0 } ∧ r.answers = [] ∧ r.tx = none)
  ∧ (EachSourceOnce r ∧ SourcesDefined r ∧ IdleMeansQuiet r ∧ EnergisedOnlyRunning r ∧ PartnersFit r ∧ NeverBothEnergised r
      ∧ ProofsFit r ∧ CountsInRange r ∧ PairsAgree r)

/-- RESET_TAKEN from any state leaves every record as State.reset has it, but for what stands outside the module and
the rate sampled last; a store cut off leaves a partial image with the signature GW and a check that fails (log 8). RESET_END starts the clock from 0
and samples the straps and the contacts. -/
def Obligations.ResetTakenAndEnded : Prop :=
  (∀ s : State, ∃ (m : ConfigMemory) (k : Nat), exec .resetTaken s = .next { State.reset with
      pending := s.pending
      free := k
      inReset := true
      baud := s.baud
      memory := m
      points := s.points.map fun x => { x with filtered := .opn, runStart := 0, runFilter := 40, lastEdge := 0,
                                               glitch := 0, owner := none }
      readback := s.readback }
    ∧ (s.store = none → m = s.memory ∧ k = s.free)
    ∧ (s.store ≠ none → m.signature = 0x4757#16 ∧ m.check ≠ crc m.content))
  ∧ ∀ (s : State) (straps : BitVec 2) (contacts : BitVec 256), s.inReset = true →
      ∃ t, exec (.resetEnd straps contacts) s = .next t
        ∧ t = { s with inReset := false, clock := 0, baud := t.baud, points := t.points }
        ∧ (straps = 0 → t.baud = .b19200) ∧ (straps = 1 → t.baud = .b38400)
        ∧ (straps = 2 → t.baud = .b57600) ∧ (straps = 3 → t.baud = .b115200)
        ∧ ∀ p, t.point p = { s.point p with raw := if contacts.getLsbD p.val = true then .made else .opn }

/-- A command whose condition does not hold leaves the module as it is (log 3): a timing before its length has run or
its deadline is reached, with no deadline held, in another part state, or at an object that is not LIVE; a byte that is
no bad LEN byte in phase LENGTH; a last byte where no frame is complete or its check agrees; a gap below 51 units. So
does every event in reset (log 6), and every message and byte in reset or after a Reset has closed the receiver
(R163, log 4). -/
def Obligations.NothingDueNothingDone : Prop :=
  ∀ s : State,
    (s.inReset = true ∨ s.rx.closed = true →
      (∀ m ∈ messageTable, ∀ body, exec (m.make body) s = .next s)
      ∧ (∀ t body, exec (.unknownType t body) s = .next s) ∧ (∀ b, exec (.byteTaken b) s = .next s)
      ∧ (∀ b, exec (.lengthError b) s = .next s) ∧ (∀ b, exec (.checkError b) s = .next s)
      ∧ exec .frameAbandon s = .next s)
    ∧ (∀ t body, t ∈ controlTypes → exec (.unknownType t body) s = .next s)
    ∧ (∀ b : Byte, s.rx.phase ≠ .length ∨ (1 ≤ b.toNat ∧ b.toNat ≤ 250) → exec (.lengthError b) s = .next s)
    ∧ (∀ b, s.rx.phase ≠ .collect → exec (.checkError b) s = .next s)
    ∧ (∀ b, (∀ (start len : Byte) (rest : List Byte), s.rx.kept.map Prod.fst ++ [b] = start :: len :: rest →
        rest.length < len.toNat + 2) → exec (.checkError b) s = .next s)
    ∧ (∀ (start len type : Byte) (body : List Byte) (hi lo : Byte),
        s.rx.kept.map Prod.fst = [start, len, type] ++ body ++ [hi] → len.toNat = body.length + 1 →
        hi ++ lo = crc ([len, type] ++ body) → exec (.checkError lo) s = .next s)
    ∧ (s.rx.phase = .hunt → exec .frameAbandon s = .next s)
    ∧ ((∀ x, s.rx.kept.getLast? = some x → interval x.2 s.clock < 51) → exec .frameAbandon s = .next s)
    ∧ (s.inReset = true → ∀ p, exec (.rawTransition p) s = .next s)
    ∧ (∀ p, s.inReset = true ∨ ¬ EdgeDue s p → exec (.edgeAccept p) s = .next s)
    ∧ (∀ n, s.inReset = true ∨ ¬ SettleDue s n → exec (.settleInDeadline n) s = .next s)
    ∧ (∀ n, s.inReset = true ∨ ¬ TransitDue s n → exec (.transitDeadline n) s = .next s)
    ∧ (∀ n, s.inReset = true ∨ ¬ ConflictDue s n → exec (.conflictDeadline n) s = .next s)
    ∧ (∀ n, s.inReset = true ∨ ¬ SteadyDue s n → exec (.steadyDeadline n) s = .next s)
    ∧ (s.inReset = true ∨ ¬ BoundaryDue s → exec .chatterBoundary s = .next s)
    ∧ (∀ i, s.inReset = true ∨ ¬ PulseEndDue s i → exec (.pulseEnd i) s = .next s)
    ∧ (∀ i, s.inReset = true ∨ ¬ DriverFaultDue s i → exec (.driverCheckFault i) s = .next s)
    ∧ (∀ i, s.inReset = true ∨ ¬ ProofDue s i → exec (.proofDeadline i) s = .next s)
    ∧ (s.inReset = true ∨ ¬ SilenceDue s → exec .silenceDeadline s = .next s)
    ∧ (s.inReset = true ∨ ¬ AttemptDue s → exec .surveyAttempt s = .next s)
    ∧ (∀ c, s.inReset = true ∨ ¬ ReferenceDue s → exec (.referenceGateEnd c) s = .next s)
    ∧ (∀ c, s.inReset = true ∨ ¬ PointGateDue s → exec (.pointGateEnd c) s = .next s)
    ∧ (∀ r, s.inReset = true ∨ s.partState ≠ .loading → exec (.imageLoadEnd r) s = .next s)
    ∧ (∀ r, s.inReset = true ∨ s.store = none → exec (.storeEnd r) s = .next s)
    ∧ (s.inReset = true ∨ ¬ FlashDue s → exec .lampFlash s = .next s)
    ∧ (s.inReset = true ∨ s.tx = none → exec .frameSent s = .next s)
    ∧ (s.inReset = false → ∀ straps contacts, exec (.resetEnd straps contacts) s = .next s)

/-! ## The desk link -/

/-- What is examined first in every message (section 10.4, R161): a TYPE that names no control message is answered
UNKNOWN_TYPE with the type echoed; then the part state, BUSY in LOADING and WRONG_STATE where the message is not
allowed; then the body's length, BAD_FORM for any but section 10.7's. None of these has an effect. An unknown type
is answered so in LOADING too (log 20). -/
def Obligations.TypeThenPartStateThenLength : Prop :=
  (∀ (s : State) (t : Byte) (body : List Byte), Ready s → t ∉ controlTypes →
      Refuses (.unknownType t body) t .unknownType s)
  ∧ (∀ (s : State) (m : MessageRow) (body : List Byte), Ready s → m ∈ messageTable →
      (m.allowed s.partState = false →
        Refuses (m.make body) m.type (if s.partState = .loading then .busy else .wrongState) s)
      ∧ (m.allowed s.partState = true → m.free s → body.length ≠ m.length → Refuses (m.make body) m.type .badForm s))

/-- R160: a good frame first restarts the desk-silence timer and ends a silence; then it is an overrun where four
answers wait, and otherwise it is executed with exactly one answer appended, whatever its TYPE. -/
def Obligations.GoodFrameExecutedOnce : Prop :=
  State.reset.answers = []
  ∧ ∀ (s : State) (body : List Byte), s.inReset = false → s.rx.closed = false →
    let overrun_ : State := { received s with errors :=
      { s.errors with overruns := min (s.errors.overruns + 1) 65535 } }
    ReceiptEffect s (received s)
    ∧ (∀ m ∈ messageTable,
        (4 ≤ s.answers.length → exec (m.make body) s = .next (schedule overrun_))
        ∧ (s.answers.length < 4 → ∃ code data v, v.answers = s.answers ∧ AnswersWith (m.make body) m.type code data v s))
    ∧ ∀ t ∉ controlTypes,
        (4 ≤ s.answers.length → exec (.unknownType t body) s = .next (schedule overrun_))
        ∧ (s.answers.length < 4 → ∃ code data v, v.answers = s.answers
            ∧ AnswersWith (.unknownType t body) t code data v s)

/-- The bytes of a whole frame, taken one by one at a hunting receiver, do exactly what the frame's control message
does. -/
def Obligations.FrameBytesExecuteTheMessage : Prop :=
  ∀ (s : State) (m : MessageRow) (body : List Byte), Ready s → s.rx.phase = .hunt →
    s.tx.isSome = true ∨ s.waiting = false → m ∈ messageTable → body.length ≤ 249 →
    takeAll (Frame.bytes { type := m.type, body := body }) s = exec (m.make body) s

/-- Every byte, length error, check error and abandonment completes, with the whole pass of R158 over the kept bytes:
the discard is counted once and its bytes are taken again, in order, before anything newer, with the scheduler's choice
after each byte (R99, log 11). A bad LEN byte is taken again with the rest, and the gap is looked at when no byte is
left (log 22). -/
def Obligations.ReceiverPassCompletes : Prop :=
  ∀ (s : State) (b : Byte), s.inReset = false → s.rx.closed = false →
    (∃ t, LeadsTo (.byteTaken b) s t ∧ Pass [(b, s.clock)] s t)
    ∧ (s.rx.phase = .length → badLen b = true → ∃ t, LeadsTo (.lengthError b) s t ∧
        Pass (s.rx.kept.tail ++ [(b, s.clock)])
          (schedule { s with rx := { phase := .hunt, kept := [], closed := false },
                             errors := { s.errors with length := min (s.errors.length + 1) 65535 } }) t)
    ∧ (s.rx.phase = .collect → frameComplete (s.rx.kept ++ [(b, s.clock)]) = true →
        checkGood (s.rx.kept ++ [(b, s.clock)]) = false → ∃ t, LeadsTo (.checkError b) s t ∧
        Pass (s.rx.kept ++ [(b, s.clock)]).tail
          (schedule { s with rx := { phase := .hunt, kept := [], closed := false },
                             errors := { s.errors with check := min (s.errors.check + 1) 65535 } }) t)
    ∧ (∀ x, s.rx.phase ≠ .hunt → s.rx.kept.getLast? = some x → 51 ≤ interval x.2 s.clock →
        ∃ t, LeadsTo .frameAbandon s t ∧ Pass s.rx.kept.tail
          { s with rx := { phase := .hunt, kept := [], closed := false },
                   errors := { s.errors with abandoned := min (s.errors.abandoned + 1) 65535 } } t)

/-- What one byte does in each phase, the arrival time kept with it (R156); a complete frame is handed for execution when
its check agrees and is discarded with a check error otherwise, and the discards are counted (R159). A bad LEN byte
itself is taken again with the bytes after the SOF (log 22). -/
def Obligations.ReceiverTakesOneByte : Prop :=
  State.reset.rx = { phase := .hunt, kept := [], closed := false }
  ∧ ∀ (s : State) (b : Byte) (t : Time), s.rx.closed = false →
    (s.rx.phase = .hunt → b = 0xA5 →
      takeByte b t s = ({ s with rx := { phase := .length, kept := [(b, t)], closed := false } }, []))
    ∧ (s.rx.phase = .hunt → b ≠ 0xA5 → takeByte b t s = (s, []))
    ∧ (s.rx.phase = .length → 1 ≤ b.toNat ∧ b.toNat ≤ 250 →
      takeByte b t s = ({ s with rx := { phase := .collect, kept := s.rx.kept ++ [(b, t)], closed := false } }, []))
    ∧ (s.rx.phase = .length → ¬ (1 ≤ b.toNat ∧ b.toNat ≤ 250) →
      takeByte b t s = ({ s with rx := { phase := .hunt, kept := [], closed := false },
                                 errors := { s.errors with length := min (s.errors.length + 1) 65535 } },
                        s.rx.kept.tail ++ [(b, t)]))
    ∧ (∀ sofByte len t1 t2 rest, s.rx.phase = .collect → s.rx.kept = (sofByte, t1) :: (len, t2) :: rest →
        rest.length + 1 < len.toNat + 2 →
      takeByte b t s = ({ s with rx := { phase := .collect, kept := s.rx.kept ++ [(b, t)], closed := false } }, []))
    ∧ (∀ sofByte len (type : Byte) (body : List Byte) (hi : Byte), s.rx.phase = .collect →
        s.rx.kept.map Prod.fst = [sofByte, len, type] ++ body ++ [hi] → len.toNat = body.length + 1 →
      takeByte b t s =
        if crc ([len, type] ++ body) = hi ++ b then
          (receive type (handlerOf type) body { s with rx := { phase := .hunt, kept := [], closed := false } }, [])
        else ({ s with rx := { phase := .hunt, kept := [], closed := false },
                       errors := { s.errors with check := min (s.errors.check + 1) 65535 } },
              s.rx.kept.tail ++ [(b, t)]))

/-- R155: the check register, its eight shifts for each byte, the value over 0x31 to 0x39, the check the transmitter
appends over LEN, TYPE and BODY, and the comparison the receiver makes. -/
def Obligations.FrameCheck : Prop :=
  let shift : BitVec 16 → BitVec 16 := fun r => if r.msb = true then (r <<< 1) ^^^ 0x1021#16 else r <<< 1
  crc [] = 0xFFFF#16
  ∧ (∀ (bytes : List Byte) (b : Byte),
      crc (bytes ++ [b]) = shift^[8] (crc bytes ^^^ ((b.zeroExtend 16 : BitVec 16) <<< 8)))
  ∧ crc [0x31, 0x32, 0x33, 0x34, 0x35, 0x36, 0x37, 0x38, 0x39] = 0x29B1#16
  ∧ (∀ (type : Byte) (body : List Byte), body.length ≤ 249 →
      ∃ len hi lo : Byte, len.toNat = body.length + 1
        ∧ Frame.bytes { type := type, body := body } = [0xA5, len, type] ++ body ++ [hi, lo]
        ∧ hi ++ lo = crc ([len, type] ++ body))
  ∧ ∀ (kept : List (Byte × Time)) (start len type : Byte) (body : List Byte) (hi lo : Byte),
      kept.map Prod.fst = [start, len, type] ++ body ++ [hi, lo] → len.toNat = body.length + 1 →
      (checkGood kept = true ↔ hi ++ lo = crc ([len, type] ++ body))

/-! ## Sense points and the delivery of edges -/

/-- A raw transition: the level flips, the run starts now with the group's filter time, and one that ends a filter run
counts a glitch, saturating at 255 (R5, R7); nothing else of the module changes. -/
def Obligations.RawTransition : Prop :=
  ∀ (s : State) (p : PointId), s.inReset = false →
    let x := s.point p
    LeadsTo (.rawTransition p) s (s.setPoint p
      { raw := if x.raw = .made then .opn else .made
        filtered := x.filtered
        runStart := s.clock
        runFilter := (s.group (groupOf p)).filterMs * 10
        lastEdge := x.lastEdge
        glitch := if x.raw ≠ x.filtered then min (x.glitch + 1) 255 else x.glitch
        owner := x.owner })

/-- An edge is accepted: the filtered level takes the raw level and the last edge time the run start time; an edge to
OPEN on the measured point discards the measurement; the edge is evaluated at a LIVE owner in RUNNING and at no other
(R6, R13, R19, R35, R148). -/
def Obligations.EdgeAccepted : Prop :=
  ∀ (s : State) (p : PointId), s.inReset = false →
    (s.point p).raw ≠ (s.point p).filtered →
    (s.point p).runFilter ≤ interval (s.point p).runStart s.clock →
    ∃ v : State,
      v = { s with points := v.points, measure := v.measure }
      ∧ v.point p = { s.point p with filtered := (s.point p).raw, lastEdge := (s.point p).runStart }
      ∧ (∀ q, q ≠ p → v.point q = s.point q)
      ∧ v.measure = (if (s.point p).raw = .opn ∧ (∃ m, s.measure = some m ∧ m.point = p) then none else s.measure)
      ∧ (∀ n o, s.partState = .running → (s.point p).owner = some n → s.object n = some o → o.admission = .live →
          LeadsTo (.edgeAccept p) s (applyStep n (edgeStep v p (s.point p).raw (s.point p).runStart o) v))
      ∧ ((∀ n o, s.partState = .running → (s.point p).owner = some n → s.object n = some o →
            o.admission = .suspended) → LeadsTo (.edgeAccept p) s v)

/-- The effect of one event at an object on the module: the record, the proofs a committed change reaches, and one
request of the most urgent class where there is a reason (R20, R32, R135). A committed change is handed to the proving
unit with the record already written, and the object's one request follows (log 28). -/
def Obligations.ApplyStepEffect : Prop :=
  ∀ (n : ObjId) (p : ObjStep) (s : State),
    let t := applyStep n p s
    t = { s with objects := t.objects, outputs := t.outputs, proofs := t.proofs, urgent := t.urgent,
                 routine := t.routine, free := t.free }
    ∧ t.object n = some p.obj ∧ (∀ m, m ≠ n → t.object m = s.object m)
    ∧ (p.change = none → p.reason = none → t = s.setObject n p.obj)
    ∧ (∀ c, p.change = none → p.reason = some c → t = request (.object n) c (s.setObject n p.obj))
    ∧ (∀ v at_, p.change = some (v, at_) → p.reason = none → t = notifyProofs n v at_ (s.setObject n p.obj))
    ∧ (∀ v at_ c, p.change = some (v, at_) → p.reason = some c →
        t = request (.object n) c (notifyProofs n v at_ (s.setObject n p.obj)))
    ∧ (∀ c, p.reason = some c → (holds t.urgent (.object n) || holds t.routine (.object n)) = true)
    ∧ (p.reason = some .urgent → holds t.urgent (.object n) = true)
    ∧ (p.reason = none → holds t.urgent (.object n) = holds s.urgent (.object n)
        ∧ holds t.routine (.object n) = holds s.routine (.object n))

/-- R93: what a request does where the source stands. -/
def Obligations.RequestTable : Prop :=
  ∀ (src : Source) (s : State),
    (∀ c, holds s.urgent src = true → request src c s = s)
    ∧ (holds s.urgent src = false → holds s.routine src = false →
        request src .urgent s = { s with urgent := s.urgent ++ [{ source := src, created := s.clock }] }
        ∧ request src .routine s = { s with routine := s.routine ++ [{ source := src, created := s.clock }] })
    ∧ (holds s.urgent src = false → holds s.routine src = true →
        request src .routine s = s
        ∧ ∃ e ∈ s.routine, e.source = src ∧
          request src .urgent s = { s with routine := s.routine.filter (fun k => decide (k.source ≠ src)),
                                           urgent := s.urgent ++ [e] })

/-! ## Indication objects -/

/-- A committed change (R20, R21, R22, R29, R30, R82, R84, R85): what it does to the record, when the chatter limiter
holds it, and the class of the one request. -/
def Obligations.CommittedChange : Prop :=
  ∀ (v : Indication) (t : Time) (p : ObjStep),
    let o := p.obj
    let q := p.commit v t
    let count := min (o.windowCount + 1) 255
    let begins : Prop := o.quarantined = false ∧ o.cfg.chatterLimit ≠ 0 ∧ o.cfg.chatterLimit < count
    let operates : Prop := o.cfg.kind ≠ .coded ∧ v = .picked ∧ o.settled = some .dropped
    let due : Prop := operates ∧ o.cfg.service ≠ 0 ∧ o.cfg.service ≤ min (o.opCount + 1) 65535
      ∧ o.serviceLatch = false
    q.change = some (v, t)
    ∧ q.obj = { o with evaluated := .shown v, lastChange := t, changes := min (o.changes + 1) 255,
                       windowCount := count, settled := settledAfter o.cfg.kind v o.settled,
                       reported := q.obj.reported, quarantined := q.obj.quarantined, events := q.obj.events,
                       opCount := q.obj.opCount, serviceLatch := q.obj.serviceLatch }
    ∧ (q.obj.quarantined = true ↔ o.quarantined = true ∨ begins)
    ∧ (o.quarantined = true ∨ begins → q.obj.reported = o.reported)
    ∧ (¬ (o.quarantined = true ∨ begins) → q.obj.reported = v)
    ∧ (operates → q.obj.opCount = min (o.opCount + 1) 65535) ∧ (¬ operates → q.obj.opCount = o.opCount)
    ∧ (q.obj.serviceLatch = true ↔ o.serviceLatch = true ∨ due)
    ∧ (begins → due → q.obj.events = o.events ||| Event.quarantineOn.bit ||| Event.serviceDue.bit)
    ∧ (begins → ¬ due → q.obj.events = o.events ||| Event.quarantineOn.bit)
    ∧ (¬ begins → due → q.obj.events = o.events ||| Event.serviceDue.bit)
    ∧ (¬ begins → ¬ due → q.obj.events = o.events)
    ∧ (q.reason = some .urgent ↔ p.reason = some .urgent ∨ begins
        ∨ (o.quarantined = false ∧ ¬ begins ∧ classInto o.cfg.urgent v = .urgent))
    ∧ (q.reason = none ↔ p.reason = none ∧ o.quarantined = true ∧ ¬ due)

/-- The deadlines of an object. Settle-in (R25): it leaves UNPROVEN with the indication its filtered levels give, at the
clock value of the deadline, not offered to the chatter limiter and not an operation. Transit and conflict (R44, R55):
LOST is committed at the transit deadline with the transit memory kept, CONFLICT at the conflict deadline with no
origin. Steady (R74): the ring is emptied, and the steady value of the level is committed at the deadline's value where
it is not held already. -/
def Obligations.ObjectDeadlines : Prop :=
  (∀ (s : State) (n : ObjId) (o : Obj) (d : Time), s.inReset = false → s.partState = .running → s.object n = some o →
      o.admission = .live → o.evaluated = .shown .unproven → o.settleDeadline = some d → reached d s.clock = true →
      let v := contactIndication o.cfg.kind (s.point o.cfg.pointA).filtered (s.point (secondPoint o.cfg)).filtered
      LeadsTo (.settleInDeadline n) s (applyStep n
        { obj := { o with
            evaluated := .shown v
            reported := v
            lastChange := s.clock
            changes := min (o.changes + 1) 255
            settleDeadline := none
            settled := settledAfter o.cfg.kind v o.settled
            origin := match o.cfg.kind with
              | .pair _ => settledAfter o.cfg.kind v o.origin
              | .single _ | .coded => o.origin
            code := match o.cfg.kind with
              | .coded => { o.code with anchor := none, periods := [], candidate := none }
              | .single _ | .pair _ => o.code }
          reason := some (classInto o.cfg.urgent v)
          change := some (v, s.clock) } s))
  ∧ (∀ (s : State) (n : ObjId) (o : Obj) (d : Time), s.inReset = false → s.partState = .running → s.object n = some o →
      o.admission = .live → reached d s.clock = true →
      (o.evaluated = .transit → o.pair.transitDeadline = some d →
        LeadsTo (.transitDeadline n) s (applyStep n (ObjStep.commit .lost d
          { obj := { o with pair := { o.pair with transitDeadline := none } }, reason := none, change := none }) s))
      ∧ (o.evaluated = .conflictPending → o.pair.conflictDeadline = some d →
        LeadsTo (.conflictDeadline n) s (applyStep n (ObjStep.commit .conflict d
          { obj := { o with origin := none,
                            pair := { o.pair with conflictStart := none, conflictDeadline := none } }
            reason := none
            change := none }) s)))
  ∧ (∀ (s : State) (n : ObjId) (o : Obj) (d : Time), s.inReset = false → s.partState = .running → s.object n = some o →
      o.admission = .live → o.cfg.kind = .coded → o.code.steadyDeadline = some d → reached d s.clock = true →
      let v := contactIndication .coded (s.point o.cfg.pointA).filtered .opn
      let emptied : ObjStep := { obj := { o with code := { o.code with
          anchor := none, periods := [], candidate := none, steadyDeadline := none } }, reason := none, change := none }
      (o.evaluated = .shown v → LeadsTo (.steadyDeadline n) s (applyStep n emptied s))
      ∧ (o.evaluated ≠ .shown v → LeadsTo (.steadyDeadline n) s (applyStep n (emptied.commit v d) s)))

/-- An edge at a SINGLE object commits the indication of its sense and level (R28); while a SINGLE or PAIR object is
UNPROVEN an edge restarts settle-in and changes nothing else (R25). -/
def Obligations.SingleAndUnprovenEdges : Prop :=
  ∀ (s : State) (p : PointId) (level : Level) (cap : Time) (o : Obj),
    (o.cfg.kind ≠ .coded → o.evaluated = .shown .unproven →
      edgeStep s p level cap o =
        { obj := { o with settleDeadline := some (after s.clock (s.timing.settleInMs * 10)) }
          reason := none
          change := none })
    ∧ (∀ sense, o.cfg.kind = .single sense → o.evaluated ≠ .shown .unproven →
      edgeStep s p level cap o =
        ObjStep.commit (contactIndication (.single sense) level level) cap
          { obj := o, reason := none, change := none })

/-- The table of section 3.6 (R41, R42, R46, R47, R49 to R54, R57) for a classified PAIR object: `mine` is the rest state
whose contact the edge is on, front for PICKED and back for DROPPED. -/
def Obligations.PairEdgeTable : Prop :=
  ∀ (s : State) (p b : PointId) (cap : Time) (o : Obj), o.cfg.kind = .pair b → o.cfg.pointA ≠ b →
    p = o.cfg.pointA ∨ p = b →
    let mine : Rest := if p = o.cfg.pointA then .picked else .dropped
    let otherFilter : Nat := (s.group (groupOf (if p = o.cfg.pointA then b else o.cfg.pointA))).filterMs * 10
    let limit : Nat := o.staged.transit.getD o.cfg.transitMs
    let fresh : Obj := { o with cfg := { o.cfg with transitMs := limit }, staged := { o.staged with transit := none } }
    let quiet : PairRec := { o.pair with transitStart := none, transitDeadline := none, conflictStart := none,
                                         conflictDeadline := none }
    let plain : Obj → ObjStep := fun x => { obj := x, reason := none, change := none }
    (o.evaluated = .shown mine.indication →
      let d := after cap (limit * 10 + otherFilter)
      let moving : Obj := { fresh with evaluated := .transit, origin := some mine,
                                       pair := { o.pair with transitStart := some cap, transitDeadline := some d } }
      edgeStep s p .opn cap o =
        if reached d s.clock then
          ObjStep.commit .lost d (plain { moving with pair := { moving.pair with transitDeadline := none } })
        else plain moving)
    ∧ (o.evaluated = .shown mine.opposite.indication →
      let d := after cap (s.timing.conflictMs * 10)
      let pending : Obj := { fresh with evaluated := .conflictPending, origin := some mine.opposite,
                                        pair := { o.pair with conflictStart := some cap, conflictDeadline := some d } }
      edgeStep s p .made cap o =
        if reached d s.clock then
          ObjStep.commit .conflict d (plain { pending with origin := none, pair := { pending.pair with
            conflictStart := none, conflictDeadline := none } })
        else plain pending)
    ∧ (∀ start, o.evaluated = .transit → o.pair.transitStart = some start →
      (o.origin = some mine → edgeStep s p .made cap o =
        { obj := { o with evaluated := .shown mine.indication, events := o.events ||| Event.aborted.bit,
                          pair := { o.pair with transitStart := none, transitDeadline := none } }
          reason := some .routine
          change := none })
      ∧ (o.origin = some mine.opposite → edgeStep s p .made cap o = transfer mine.opposite start cap cap o))
    ∧ (∀ start, o.evaluated = .shown .lost → o.pair.transitStart = some start →
      (o.origin = some mine → edgeStep s p .made cap o =
        ObjStep.commit mine.indication cap
          { obj := { o with events := o.events ||| Event.aborted.bit, pair := quiet }
            reason := some .routine
            change := none })
      ∧ (o.origin = some mine.opposite → edgeStep s p .made cap o = transfer mine.opposite start cap cap o))
    ∧ (o.evaluated = .shown .lost → o.pair.transitStart = none →
      edgeStep s p .made cap o = ObjStep.commit mine.indication cap (plain { o with origin := some mine, pair := quiet }))
    ∧ (∀ start, o.evaluated = .conflictPending → o.pair.conflictStart = some start →
      (o.origin = some mine → edgeStep s p .opn cap o = transfer mine cap start cap o)
      ∧ (o.origin = some mine.opposite → edgeStep s p .opn cap o =
          plain { o with evaluated := .shown mine.opposite.indication,
                         pair := { o.pair with conflictStart := none, conflictDeadline := none } }))
    ∧ (o.evaluated = .shown .conflict →
      edgeStep s p .opn cap o = ObjStep.commit mine.opposite.indication cap
        (plain { o with origin := some mine.opposite, pair := quiet }))

/-- R45 with R40: the transit time of a transfer, OVERLAP or SLOW, the time recorded in its direction, and the
opposite indication committed at the edge's capture time. -/
def Obligations.TransferRule : Prop :=
  (∀ x y : Time, precedes x y = true ↔ 1 ≤ (y - x).toNat ∧ (y - x).toNat ≤ 2147483647)
  ∧ ∀ (origin : Rest) (opening making cap : Time) (o : Obj),
    let overlap : Prop := precedes making opening = true
    let units : Nat := if precedes making opening = true then 0 else (making - opening).toNat
    let slow : Prop := ¬ overlap ∧ o.cfg.transitMs * 10 < units
    let record : PairRec := { o.pair with transitStart := none, transitDeadline := none, conflictStart := none,
                                          conflictDeadline := none }
    let pair : PairRec := match origin with
      | .picked => { record with lastDropAway := min units 65535, lastDir := some .dropAway }
      | .dropped => { record with lastPickUp := min units 65535, lastDir := some .pickUp }
    let toward : Rest := match origin with
      | .picked => .dropped
      | .dropped => .picked
    (overlap → transfer origin opening making cap o = ObjStep.commit toward.indication cap
      { obj := { o with origin := some toward, pair := pair, events := o.events ||| Event.overlap.bit }
        reason := some .routine
        change := none })
    ∧ (slow → transfer origin opening making cap o = ObjStep.commit toward.indication cap
      { obj := { o with origin := some toward, pair := pair, events := o.events ||| Event.slow.bit }
        reason := some .urgent
        change := none })
    ∧ (¬ overlap → ¬ slow → transfer origin opening making cap o = ObjStep.commit toward.indication cap
      { obj := { o with origin := some toward, pair := pair }, reason := none, change := none })

/-! ## Coded indications -/

/-- R63, R64, R65: the classification of a rate, the rate of four periods and the duty of a cycle. -/
def Obligations.CodeArithmetic : Prop :=
  (∀ (bands : Vector (Option Band) 8) (rate : Nat) (i : Fin 8) (b : Band),
      (∀ j k x y, j ≠ k → bands.get j = some x → bands.get k = some y → ¬ (x.min ≤ y.max ∧ y.min ≤ x.max)) →
      bands.get i = some b → b.min ≤ rate → rate ≤ b.max → classifyRate bands rate = .code i)
  ∧ (∀ (bands : Vector (Option Band) 8) (rate : Nat),
      (∀ i b, bands.get i = some b → ¬ (b.min ≤ rate ∧ rate ≤ b.max)) → classifyRate bands rate = .noCode)
  ∧ (∀ p1 p2 p3 p4 : Nat, 20 ≤ p1 → 20 ≤ p2 → 20 ≤ p3 → 20 ≤ p4 →
      let mean := (p1 + p2 + p3 + p4 + 2) / 4
      codeRate [p1, p2, p3, p4] = max 1 (min ((600000 + mean / 2) / mean) 999))
  ∧ (∀ p1 p2 p3 p4 : Nat, 20 ≤ p1 ∧ p1 < 201000 → 20 ≤ p2 ∧ p2 < 201000 → 20 ≤ p3 ∧ p3 < 201000 →
      20 ≤ p4 ∧ p4 < 201000 → 3 ≤ codeRate [p1, p2, p3, p4])
  ∧ (∀ onTime period : Nat, 0 < period → duty onTime period = min ((100 * onTime + period / 2) / period) 100)
  ∧ ∀ onTime period : Nat, duty onTime period ≤ 100

/-- An edge at a CODED object (R25, R67 to R70): a staged steady timeout applies, settle-in or the steady timing
restarts, and the detector takes the edge into the ring; four periods make an evaluation. -/
def Obligations.CodedEdges : Prop :=
  ∀ (s : State) (p : PointId) (cap : Time) (o : Obj), o.cfg.kind = .coded → o.code.periods.length ≤ 4 →
    let steady : Nat := o.staged.steady.getD o.cfg.steadyMs
    let applied : Obj := { o with cfg := { o.cfg with steadyMs := steady }, staged := { o.staged with steady := none } }
    let timed : Obj := if o.evaluated = .shown .unproven
      then { applied with settleDeadline := some (after s.clock (s.timing.settleInMs * 10)) }
      else { applied with code := { o.code with steadyDeadline := some (after s.clock (steady * 10)) } }
    let plain : Obj → ObjStep := fun x => { obj := x, reason := none, change := none }
    (o.code.anchor = none → edgeStep s p .opn cap o = plain timed
      ∧ edgeStep s p .made cap o = plain { timed with code := { timed.code with anchor := some cap } })
    ∧ ∀ a, o.code.anchor = some a →
      let period : Nat := (cap - a).toNat
      let periods : List Nat := if o.code.periods.length = 4 then o.code.periods.tail ++ [period]
        else o.code.periods ++ [period]
      let closed : Obj := { timed with code := { timed.code with
        periods := periods, lastDuty := duty o.code.lastOnTime period, anchor := some cap } }
      edgeStep s p .opn cap o = plain { timed with code := { timed.code with lastOnTime := period } }
      ∧ (periods.length < 4 → edgeStep s p .made cap o = plain closed)
      ∧ (periods.length = 4 → edgeStep s p .made cap o =
          hysteresis (classifyRate s.bands (codeRate periods)) cap s.clock
            { closed with code := { closed.code with lastRate := codeRate periods } })

/-- R71 and R72: the three cases of an evaluation with candidate c. -/
def Obligations.Hysteresis : Prop :=
  ∀ (c : Indication) (cap now : Time) (o : Obj), o.cfg.kind = .coded →
    let cleared : Obj := { o with code := { o.code with candidate := none } }
    (o.evaluated = .shown c → hysteresis c cap now o = { obj := cleared, reason := none, change := none })
    ∧ (o.evaluated ≠ .shown c → o.code.candidate ≠ some c → hysteresis c cap now o =
        { obj := { o with code := { o.code with candidate := some c } }, reason := none, change := none })
    ∧ (o.evaluated ≠ .shown c → o.code.candidate = some c → o.evaluated ≠ .shown .unproven →
        hysteresis c cap now o = ObjStep.commit c cap { obj := cleared, reason := none, change := none })
    ∧ (o.evaluated ≠ .shown c → o.code.candidate = some c → o.evaluated = .shown .unproven →
        hysteresis c cap now o =
          { obj := { o with
              evaluated := .shown c
              reported := c
              lastChange := cap
              changes := min (o.changes + 1) 255
              settleDeadline := none
              code := { o.code with candidate := none, steadyDeadline := some (after now (o.cfg.steadyMs * 10)) } }
            reason := some (classInto o.cfg.urgent c)
            change := some (c, cap) })

/-! ## Chatter limiting -/

/-- A boundary (R81, R86, R87): the next window opens, and each object applies its staged limit, is released where the
closed window allows it, and begins its count again. The objects released request their entries in ascending number,
urgent where the reported indication moves to a value of the urgent class and routine otherwise (R21, R31). -/
def Obligations.ChatterBoundary : Prop :=
  ∀ (s : State) (w : Window), s.inReset = false → s.partState = .running → s.window = some w →
    reached w.next s.clock = true →
    ∃ t, LeadsTo .chatterBoundary s t
      ∧ t = { s with window := some { start := w.next, next := after w.next (s.timing.windowS * 10000) },
                     objects := t.objects, urgent := t.urgent, routine := t.routine }
      ∧ (let asks : ObjId → Option ReportClass := fun n => (s.object n).bind fun o =>
            let limit : Nat := o.staged.chatter.getD o.cfg.chatterLimit
            if o.quarantined = true ∧ (limit = 0 ∨ o.windowCount ≤ limit / 2)
            then some (if o.shown = o.reported then .routine else classInto o.cfg.urgent o.shown) else none;
          let asked : State := ((List.finRange 128).filterMap fun n => (asks n).map fun c => (n, c)).foldl
            (fun u a => request (.object a.1) a.2 u) s;
          t.urgent = asked.urgent ∧ t.routine = asked.routine)
      ∧ (∀ n, s.object n = none → t.object n = none)
      ∧ ∀ n o, s.object n = some o →
        let limit : Nat := o.staged.chatter.getD o.cfg.chatterLimit
        let released : Prop := o.quarantined = true ∧ (limit = 0 ∨ o.windowCount ≤ limit / 2)
        let applied : Obj := { o with cfg := { o.cfg with chatterLimit := limit },
                                      staged := { o.staged with chatter := none }, windowCount := 0 }
        (¬ released → t.object n = some applied
          ∧ holds t.urgent (.object n) = holds s.urgent (.object n)
          ∧ holds t.routine (.object n) = holds s.routine (.object n))
        ∧ (released → t.object n = some { applied with
              quarantined := false, events := o.events ||| Event.quarantineOff.bit, reported := o.shown }
          ∧ (holds t.urgent (.object n) || holds t.routine (.object n)) = true
          ∧ (o.shown ≠ o.reported → classInto o.cfg.urgent o.shown = .urgent →
              holds t.urgent (.object n) = true))

/-! ## Adjusting, suspending and resuming an object -/

/-- Adjust Object (R30, R33, R34): each present parameter at its own place, the service test at once for a LIVE object,
marked for Resume at a SUSPENDED one. Adjust Output (R112): both values staged, the values in force untouched, in
any state of the output. Both with their refusals. A present urgent flag other than 0 or 1 is refused with BAD_FORM
(log 15). -/
def Obligations.Adjustments : Prop :=
  (∀ (s : State) (num pres l1 l0 ch s1 s0 v1 v0 urg : Byte), ReadyRunning s →
      let body : List Byte := [num, pres, l1, l0, ch, s1, s0, v1, v0, urg]
      let has : Nat → Bool := fun i => pres.getLsbD i
      (pres.toNat % 32 = 0 ∨ (has 4 = true ∧ 1 < urg.toNat) → Refuses (.adjustObject body) 0x08 .badForm s)
      ∧ (pres.toNat % 32 ≠ 0 → (has 4 = true → urg.toNat ≤ 1) → (∀ n : ObjId, n.val = num.toNat → s.object n = none) →
          Refuses (.adjustObject body) 0x08 .noSuch s)
      ∧ ∀ (n : ObjId) (o : Obj), n.val = num.toNat → s.object n = some o →
        ((has 0 = true ∧ (∀ b, o.cfg.kind ≠ .pair b)) ∨ (has 2 = true ∧ o.cfg.kind ≠ .coded)
            ∨ (has 3 = true ∧ o.cfg.kind = .coded) → Refuses (.adjustObject body) 0x08 .badForm s)
        ∧ (pres.toNat % 32 ≠ 0 → (has 4 = true → urg.toNat ≤ 1) →
            (has 0 = true → ∃ b, o.cfg.kind = .pair b) → (has 2 = true → o.cfg.kind = .coded) →
            (has 3 = true → o.cfg.kind ≠ .coded) →
          let moved : Prop := (has 0 = true ∧ Outside 20 5000 (num2 l1 l0))
            ∨ (has 1 = true ∧ (ch.toNat = 1 ∨ 60 < ch.toNat)) ∨ (has 2 = true ∧ Outside 200 10000 (num2 s1 s0))
          let limit : Nat := if ch.toNat = 0 then 0 else clamp 2 60 ch.toNat
          let service : Nat := num2 v1 v0
          let changed : Prop := has 3 = true ∧ service ≠ o.cfg.service
          let due : Prop := changed ∧ o.admission = .live ∧ service ≠ 0 ∧ service ≤ o.opCount
          ∃ obj : Obj,
            obj = { o with cfg := obj.cfg, staged := obj.staged, serviceLatch := obj.serviceLatch,
                           serviceTest := obj.serviceTest, events := obj.events }
            ∧ obj.cfg = { o.cfg with service := obj.cfg.service, urgent := obj.cfg.urgent }
            ∧ (has 4 = true → (obj.cfg.urgent = true ↔ urg = 1)) ∧ (has 4 = false → obj.cfg.urgent = o.cfg.urgent)
            ∧ (changed → obj.cfg.service = service) ∧ (¬ changed → obj.cfg.service = o.cfg.service)
            ∧ obj.staged = { transit := if has 0 = true then some (clamp 20 5000 (num2 l1 l0)) else o.staged.transit
                             chatter := if has 1 = true then some limit else o.staged.chatter
                             steady := if has 2 = true then some (clamp 200 10000 (num2 s1 s0)) else o.staged.steady }
            ∧ (¬ changed → obj.serviceLatch = o.serviceLatch ∧ obj.serviceTest = o.serviceTest)
            ∧ (changed → (obj.serviceLatch = true ↔ due)
                ∧ (obj.serviceTest = true ↔ o.serviceTest = true ∨ o.admission = .suspended))
            ∧ (due → obj.events = o.events ||| Event.serviceDue.bit
                ∧ ((¬ moved → AnswersWith (.adjustObject body) 0x08 .accepted []
                    (request (.object n) .routine ((received s).setObject n obj)) s)
                  ∧ (moved → AnswersWith (.adjustObject body) 0x08 .acceptedClamped []
                    (request (.object n) .routine ((received s).setObject n obj)) s)))
            ∧ (¬ due → obj.events = o.events
                ∧ ((¬ moved → AnswersWith (.adjustObject body) 0x08 .accepted [] ((received s).setObject n obj) s)
                  ∧ (moved → AnswersWith (.adjustObject body) 0x08 .acceptedClamped []
                    ((received s).setObject n obj) s)))))
  ∧ (∀ (s : State) (num pres p1 p0 q1 q0 : Byte), ReadyRunning s →
      let body : List Byte := [num, pres, p1, p0, q1, q0]
      let has : Nat → Bool := fun i => pres.getLsbD i
      (pres.toNat % 4 = 0 → Refuses (.adjustOutput body) 0x09 .badForm s)
      ∧ (pres.toNat % 4 ≠ 0 → (∀ i : OutId, i.val = num.toNat → s.output i = none) →
          Refuses (.adjustOutput body) 0x09 .noSuch s)
      ∧ ∀ (i : OutId) (x : Output), i.val = num.toNat → s.output i = some x → pres.toNat % 4 ≠ 0 →
        let moved : Prop := (has 0 = true ∧ Outside 20 10000 (num2 p1 p0))
          ∨ (has 1 = true ∧ Outside 100 60000 (num2 q1 q0))
        let t : State := (received s).setOutput i { x with
          stagedPulse := if has 0 = true then some (clamp 20 10000 (num2 p1 p0)) else x.stagedPulse
          stagedProving := if has 1 = true then some (clamp 100 60000 (num2 q1 q0)) else x.stagedProving }
        (moved → AnswersWith (.adjustOutput body) 0x09 .acceptedClamped [] t s)
        ∧ (¬ moved → AnswersWith (.adjustOutput body) 0x09 .accepted [] t s))

/-- Suspend Object (R35, R90): what it clears, what it keeps, the entry removed and the one routine entry. Resume Object
(R30, R36): the object is LIVE and UNPROVEN with a settle-in deadline, a pending service test is made, and a routine
entry is requested. Both: the object already there, and the object not defined. -/
def Obligations.SuspendAndResume : Prop :=
  (∀ (s : State) (num : Byte), ReadyRunning s →
      ((∀ n : ObjId, n.val = num.toNat → s.object n = none) → Refuses (.suspendObject [num]) 0x0B .noSuch s)
      ∧ ∀ (n : ObjId) (o : Obj), n.val = num.toNat → s.object n = some o →
        (o.admission = .suspended → Answers (.suspendObject [num]) 0x0B .accepted [] id s)
        ∧ (o.admission = .live →
          let r := received s
          AnswersWith (.suspendObject [num]) 0x0B .accepted []
            { r.setObject n { o with
                admission := .suspended
                evaluated := .shown o.shown
                quarantined := false
                windowCount := 0
                events := 0
                settleDeadline := none
                pair := { o.pair with transitStart := none, transitDeadline := none, conflictStart := none,
                                      conflictDeadline := none }
                code := { o.code with anchor := none, periods := [], candidate := none, steadyDeadline := none } } with
              measure := if (∃ m, s.measure = some m ∧ (s.point m.point).owner = some n) then none else s.measure
              urgent := r.urgent.filter fun e => decide (e.source ≠ .object n)
              routine := (r.routine.filter fun e => decide (e.source ≠ .object n))
                ++ [{ source := .object n, created := s.clock }] } s))
  ∧ (∀ (s : State) (num : Byte), ReadyRunning s →
      ((∀ n : ObjId, n.val = num.toNat → s.object n = none) → Refuses (.resumeObject [num]) 0x0C .noSuch s)
      ∧ ∀ (n : ObjId) (o : Obj), n.val = num.toNat → s.object n = some o →
        (o.admission = .live → Answers (.resumeObject [num]) 0x0C .accepted [] id s)
        ∧ (o.admission = .suspended →
          let due : Prop := o.serviceTest = true ∧ o.cfg.service ≠ 0 ∧ o.cfg.service ≤ o.opCount ∧ o.serviceLatch = false
          let back : Obj := { o with
            admission := .live
            evaluated := .shown .unproven
            reported := .unproven
            origin := none
            settled := none
            serviceTest := false
            settleDeadline := some (after s.clock (s.timing.settleInMs * 10)) }
          (¬ due → AnswersWith (.resumeObject [num]) 0x0C .accepted []
            (request (.object n) .routine ((received s).setObject n back)) s)
          ∧ (due → AnswersWith (.resumeObject [num]) 0x0C .accepted []
            (request (.object n) .routine ((received s).setObject n
              { back with serviceLatch := true, events := o.events ||| Event.serviceDue.bit })) s)))

/-! ## Definitions and settings -/

/-- Define Object (R12, R17, R18, R19): the tests in their order, the clamping and the defaults, the record at
definition, and the ownership of the points. An urgent flag other than 0 or 1 is refused with BAD_FORM (log 15); a
parameter the kind does not use is held as 0 (log 25). -/
def Obligations.DefineObject : Prop :=
  ∀ (s : State) (num kind a b sense t1 t0 urg pres l1 l0 ch s1 s0 v1 v0 : Byte), ReadyConfiguring s →
    let body : List Byte := [num, kind, a, b, sense, t1, t0, urg, pres, l1, l0, ch, s1, s0, v1, v0]
    let has : Nat → Bool := fun i => pres.getLsbD i
    let fits : Prop := kind.toNat ≤ 2 ∧ (kind = 0 → sense.toNat ≤ 1) ∧ (kind = 1 → a ≠ b) ∧ urg.toNat ≤ 1
    let taken : Byte → Prop := fun p => (s.point (pointNumber p)).owner ≠ none
    (¬ fits → Refuses (.defineObject body) 0x01 .badForm s)
    ∧ (fits → 127 < num.toNat → Refuses (.defineObject body) 0x01 .noSuch s)
    ∧ ∀ n : ObjId, n.val = num.toNat → fits →
      (s.object n ≠ none ∨ taken a ∨ (kind = 1 ∧ taken b) → Refuses (.defineObject body) 0x01 .inUse s)
      ∧ (s.object n = none → ¬ taken a → (kind = 1 → ¬ taken b) →
        let moved : Prop := 4095 < num2 t1 t0 ∨ (kind = 1 ∧ has 0 = true ∧ Outside 20 5000 (num2 l1 l0))
          ∨ (has 1 = true ∧ (ch.toNat = 1 ∨ 60 < ch.toNat))
          ∨ (kind = 2 ∧ has 2 = true ∧ Outside 200 10000 (num2 s1 s0))
        let cfg : ObjDef :=
          { kind := if kind = 0 then .single (if sense = 0 then .front else .back)
                    else if kind = 1 then .pair (pointNumber b) else .coded
            pointA := pointNumber a
            tag := min (num2 t1 t0) 4095
            urgent := decide (urg = 1)
            transitMs := if kind = 1 then (if has 0 = true then clamp 20 5000 (num2 l1 l0) else 400) else 0
            chatterLimit := if has 1 = true then (if ch.toNat = 0 then 0 else clamp 2 60 ch.toNat) else 12
            steadyMs := if kind = 2 then (if has 2 = true then clamp 200 10000 (num2 s1 s0) else 1500) else 0
            service := if kind = 2 then 0 else if has 3 = true then num2 v1 v0 else 0 }
        ∃ t, ((moved → AnswersWith (.defineObject body) 0x01 .acceptedClamped [] t s)
            ∧ (¬ moved → AnswersWith (.defineObject body) 0x01 .accepted [] t s))
          ∧ t = { received s with objects := t.objects, points := t.points }
          ∧ (∀ m, m ≠ n → t.object m = s.object m)
          ∧ (∀ p, t.point p = if p = pointNumber a ∨ (kind = 1 ∧ p = pointNumber b)
              then { s.point p with owner := some n } else s.point p)
          ∧ t.object n = some
            { cfg := cfg
              staged := { transit := none, chatter := none, steady := none }
              admission := .live, evaluated := .shown .unproven, reported := .unproven, origin := none, settled := none
              lastChange := 0, changes := 0, events := 0, quarantined := false, degraded := false, opCount := 0
              serviceLatch := false, serviceTest := false, windowCount := 0, settleDeadline := none
              pair := { transitStart := none, transitDeadline := none, conflictStart := none, conflictDeadline := none
                        lastPickUp := 0, lastDropAway := 0, lastDir := none }
              code := { anchor := none, periods := [], candidate := none, lastRate := 0, lastOnTime := 0, lastDuty := 0
                        steadyDeadline := none } })

/-- Define Output (R110, R111, R126, R131): the tests in their order, the clamping and the defaults, and the record and
the proof record at definition. -/
def Obligations.DefineOutput : Prop :=
  ∀ (s : State) (num t1 t0 mode pres partner proving expected p1 p0 q1 q0 : Byte), ReadyConfiguring s →
    let body : List Byte := [num, t1, t0, mode, pres, partner, proving, expected, p1, p0, q1, q0]
    let has : Nat → Bool := fun i => pres.getLsbD i
    let fits : Prop := mode.toNat ≤ 1 ∧ (has 0 = true → partner ≠ num)
      ∧ (has 1 = true → expected = 0x01 ∨ expected = 0x02 ∨ expected = 0x05 ∨ expected = 0x06
          ∨ (0x11 ≤ expected.toNat ∧ expected.toNat ≤ 0x18))
    let inRange : Prop := num.toNat ≤ 63 ∧ (has 0 = true → partner.toNat ≤ 63) ∧ (has 1 = true → proving.toNat ≤ 127)
    (¬ fits → Refuses (.defineOutput body) 0x02 .badForm s)
    ∧ (fits → ¬ inRange → Refuses (.defineOutput body) 0x02 .noSuch s)
    ∧ ∀ i : OutId, i.val = num.toNat → fits → inRange →
      (s.output i ≠ none → Refuses (.defineOutput body) 0x02 .inUse s)
      ∧ (s.output i = none →
        let moved : Prop := 4095 < num2 t1 t0 ∨ (has 2 = true ∧ Outside 20 10000 (num2 p1 p0))
          ∨ (has 3 = true ∧ Outside 100 60000 (num2 q1 q0))
        ∃ t x, ((moved → AnswersWith (.defineOutput body) 0x02 .acceptedClamped [] t s)
            ∧ (¬ moved → AnswersWith (.defineOutput body) 0x02 .accepted [] t s))
          ∧ t = { received s with outputs := t.outputs, proofs := t.proofs }
          ∧ (∀ j, j ≠ i → t.output j = s.output j ∧ t.proof j = s.proof j)
          ∧ t.proof i = { phase := .none, kind := none, start := 0, object := none, expected := none, deadline := none }
          ∧ t.output i = some x
          ∧ x = { cfg := x.cfg, stagedPulse := none, stagedProving := none, state := .off, mismatch := none
                  result := { outcome := none, kind := none, start := 0, time := 0, unsent := false, lost := 0 } }
          ∧ x.cfg.tag = min (num2 t1 t0) 4095 ∧ (x.cfg.mode = .latchable ↔ mode = 1)
          ∧ x.cfg.pulseMs = (if has 2 = true then clamp 20 10000 (num2 p1 p0) else 500)
          ∧ x.cfg.provingMs = (if has 3 = true then clamp 100 60000 (num2 q1 q0) else 8000)
          ∧ (has 0 = false → x.cfg.partner = none)
          ∧ (has 0 = true → ∃ j : OutId, x.cfg.partner = some j ∧ j.val = partner.toNat)
          ∧ (has 1 = false → x.cfg.proving = none ∧ x.cfg.expected = none)
          ∧ (has 1 = true → ∃ n v, x.cfg.proving = some n ∧ n.val = proving.toNat
              ∧ x.cfg.expected = some v ∧ v.byte = expected))

/-- Set Bands (R62): the clamping, the tests 4 and 5, and the table replaced whole. A slot is present where bit 0 of
its marker is 1 (log 16). -/
def Obligations.SetBands : Prop :=
  ∀ (s : State) (body : List Byte), ReadyConfiguring s → body.length = 40 →
    let at_ : Nat → Byte := fun k => body.getD k 0
    let has : Fin 8 → Bool := fun i => (at_ (5 * i.val)).getLsbD 0
    let lowIn : Fin 8 → Nat := fun i => num2 (at_ (5 * i.val + 1)) (at_ (5 * i.val + 2))
    let highIn : Fin 8 → Nat := fun i => num2 (at_ (5 * i.val + 3)) (at_ (5 * i.val + 4))
    let low : Fin 8 → Nat := fun i => clamp 1 999 (lowIn i)
    let high : Fin 8 → Nat := fun i => clamp 1 999 (highIn i)
    let inverted : Prop := ∃ i, has i = true ∧ high i < low i
    let shared : Prop := ∃ i j, i ≠ j ∧ has i = true ∧ has j = true ∧ low i ≤ high j ∧ low j ≤ high i
    let moved : Prop := ∃ i, has i = true ∧ (Outside 1 999 (lowIn i) ∨ Outside 1 999 (highIn i))
    (inverted → Refuses (.setBands body) 0x03 .badForm s)
    ∧ (¬ inverted → shared → Refuses (.setBands body) 0x03 .overlap s)
    ∧ (¬ inverted → ¬ shared → ∃ t,
        ((moved → AnswersWith (.setBands body) 0x03 .acceptedClamped [] t s)
          ∧ (¬ moved → AnswersWith (.setBands body) 0x03 .accepted [] t s))
        ∧ t = { received s with bands := t.bands }
        ∧ ∀ i, t.bands.get i = if has i = true then some { min := low i, max := high i } else none)

/-- Set Group (R9, R142, R148): the group's settings, its re-arming and the discard of a measurement in the group. Set
Part Timing (R23, R39, R80, R124, R164): the present fields clamped, and in RUNNING the desk-silence time alone. A
survey enable other than 0 or 1 is refused with BAD_FORM (log 15). -/
def Obligations.SetGroupAndTiming : Prop :=
  (∀ (s : State) (g f e r1 r0 : Byte), ReadyLoaded s →
      let body : List Byte := [g, f, e, r1, r0]
      (1 < e.toNat → Refuses (.setGroup body) 0x04 .badForm s)
      ∧ (e.toNat ≤ 1 → 15 < g.toNat → Refuses (.setGroup body) 0x04 .noSuch s)
      ∧ ∀ k : GroupId, k.val = g.toNat → e.toNat ≤ 1 →
        let moved : Prop := Outside 1 50 f.toNat ∨ Outside 100 10000 (num2 r1 r0)
        let t : State := { (received s).setGroup k
            { filterMs := clamp 1 50 f.toNat, survey := decide (e = 1), refRes := clamp 100 10000 (num2 r1 r0)
              refFault := false } with
          measure := if (∃ m, s.measure = some m ∧ groupOf m.point = k) then none else s.measure }
        (moved → AnswersWith (.setGroup body) 0x04 .acceptedClamped [] t s)
        ∧ (¬ moved → AnswersWith (.setGroup body) 0x04 .accepted [] t s))
  ∧ (∀ (s : State) (pres a1 a0 c1 c0 w d1 d0 : Byte), ReadyLoaded s →
      let body : List Byte := [pres, a1, a0, c1, c0, w, d1, d0]
      let has : Nat → Bool := fun i => pres.getLsbD i
      let old := s.timing
      let allowed : Prop := s.partState = .running → has 0 = false ∧ has 1 = false ∧ has 2 = false
      let moved : Prop := (has 0 = true ∧ Outside 200 10000 (num2 a1 a0)) ∨ (has 1 = true ∧ Outside 10 500 (num2 c1 c0))
        ∨ (has 2 = true ∧ Outside 1 10 w.toNat) ∨ (has 3 = true ∧ Outside 500 30000 (num2 d1 d0))
      let t : State := { received s with timing :=
        { settleInMs := if has 0 = true then clamp 200 10000 (num2 a1 a0) else old.settleInMs
          conflictMs := if has 1 = true then clamp 10 500 (num2 c1 c0) else old.conflictMs
          windowS := if has 2 = true then clamp 1 10 w.toNat else old.windowS
          silenceMs := if has 3 = true then clamp 500 30000 (num2 d1 d0) else old.silenceMs } }
      (pres.toNat % 16 = 0 → Refuses (.setPartTiming body) 0x05 .badForm s)
      ∧ (pres.toNat % 16 ≠ 0 → ¬ allowed → Refuses (.setPartTiming body) 0x05 .wrongState s)
      ∧ (pres.toNat % 16 ≠ 0 → allowed → (moved → AnswersWith (.setPartTiming body) 0x05 .acceptedClamped [] t s)
          ∧ (¬ moved → AnswersWith (.setPartTiming body) 0x05 .accepted [] t s)))

/-- Set Reporting (R101): a present mode also zeroes the urgent-run counter. Set Survey (R143): the present settings
clamped, and the clear threshold kept below the degrade threshold. -/
def Obligations.SetReportingAndSurvey : Prop :=
  (∀ (s : State) (pres r q : Byte), ReadyLoaded s →
      let has : Nat → Bool := fun i => pres.getLsbD i
      let fits : Prop := pres.toNat % 4 ≠ 0 ∧ (has 0 = true → r.toNat ≤ 3) ∧ (has 1 = true → q.toNat ≤ 1)
      (¬ fits → Refuses (.setReporting [pres, r, q]) 0x06 .badForm s)
      ∧ (fits → ∃ t, AnswersWith (.setReporting [pres, r, q]) 0x06 .accepted [] t s
          ∧ t = { received s with reporting := t.reporting, urgentRun := t.urgentRun }
          ∧ (has 0 = true → t.reporting.ratio.byte = r ∧ t.urgentRun = 0)
          ∧ (has 0 = false → t.reporting.ratio = s.reporting.ratio ∧ t.urgentRun = s.urgentRun)
          ∧ (has 1 = true → t.reporting.position.byte = q)
          ∧ (has 1 = false → t.reporting.position = s.reporting.position)))
  ∧ (∀ (s : State) (pres i1 i0 d1 d0 c1 c0 : Byte), ReadyLoaded s →
      let body : List Byte := [pres, i1, i0, d1, d0, c1, c0]
      let has : Nat → Bool := fun i => pres.getLsbD i
      let degrade : Nat := if has 1 = true then clamp 1 65534 (num2 d1 d0) else s.surveySet.degrade
      let clear : Nat := if has 2 = true then clamp 0 65533 (num2 c1 c0) else s.surveySet.clear
      let moved : Prop := (has 0 = true ∧ Outside 50 60000 (num2 i1 i0)) ∨ (has 1 = true ∧ Outside 1 65534 (num2 d1 d0))
        ∨ (has 2 = true ∧ 65533 < num2 c1 c0) ∨ degrade ≤ clear
      let t : State := { received s with surveySet :=
        { intervalMs := if has 0 = true then clamp 50 60000 (num2 i1 i0) else s.surveySet.intervalMs
          degrade := degrade
          clear := if degrade ≤ clear then degrade - 1 else clear } }
      (pres.toNat % 8 = 0 → Refuses (.setSurvey body) 0x07 .badForm s)
      ∧ (pres.toNat % 8 ≠ 0 → (moved → AnswersWith (.setSurvey body) 0x07 .acceptedClamped [] t s)
          ∧ (¬ moved → AnswersWith (.setSurvey body) 0x07 .accepted [] t s)))

/-! ## START, the image and the lamp -/

/-- Start in CONFIGURING (R24, R81, R122, R124, R144, R171): refused with the first output that fails a test, and
otherwise performed at the present clock value. A readback already on begins a mismatch at once (log 31). -/
def Obligations.StartPerformed : Prop :=
  ∀ s : State, ReadyConfiguring s →
    (∀ i : OutId, ¬ PassesStart s i → (∀ j : OutId, j < i → PassesStart s j) →
      Answers (.start []) 0x0A .badConfig [[1, BitVec.ofNat 8 i.val]] id s)
    ∧ ((∀ i, PassesStart s i) → ∃ t, AnswersWith (.start []) 0x0A .accepted [] t s
        ∧ t = { received s with
            partState := .running
            objects := t.objects
            outputs := t.outputs
            window := some { start := s.clock, next := after s.clock (s.timing.windowS * 10000) }
            silenceDeadline := some (after s.clock (s.timing.silenceMs * 10))
            deskSilent := false
            nextAttempt := some (after s.clock (s.surveySet.intervalMs * 10)) }
        ∧ (∀ n, t.object n = (s.object n).map fun o =>
            { o with admission := .live, evaluated := .shown .unproven, reported := .unproven,
                     settleDeadline := some (after s.clock (s.timing.settleInMs * 10)) })
        ∧ ∀ i, t.output i = (s.output i).map fun x =>
            if x.state = .faulted then { x with mismatch := none }
            else { x with mismatch := if x.state.energised = s.readbackOn i then none else x.mismatch.or (some s.clock) })

/-- IMAGE_LOAD_END (R168, R170, R171): NO_IMAGE, IMAGE_BAD, LOADED or START_FAILED with the defaults or the image's
configuration, and RUNNING where an autostart passes. The check is that of R155 over every byte after the signature.
The image's configuration is its settings, clamped, and then each definition in order; it is refused with a band table
or a definition that Set Bands, Define Object or Define Output would refuse (R12, R17, R18, R62, R110, R111, R131). The
bytes inside a part are the model's (log 7), bytes that make no image are found IMAGE_BAD (log 35), a readback already
on at an autostart begins a mismatch (log 31), and the lamp's first half period is free (log 12). -/
def Obligations.ImageLoadEnds : Prop :=
  (∀ (s : State) (responds : Bool), s.inReset = false → s.partState = .loading →
    let readable : Prop := responds = true ∧ s.memory.signature = 0x4757#16
    let good : Prop := s.memory.check = crc s.memory.content
    let configuring : ImageStatus → State → State := fun status u =>
      { u with partState := .configuring, imageStatus := status, flashStart := u.clock,
               flashLit := Config.freeLamp u.free, free := u.free + 1 }
    (¬ readable → LeadsTo (.imageLoadEnd responds) s (configuring .noImage s))
    ∧ (readable → ¬ good → LeadsTo (.imageLoadEnd responds) s (configuring .imageBad s))
    ∧ (readable → good → parseImage s.memory.content = none →
        LeadsTo (.imageLoadEnd responds) s (configuring .imageBad s))
    ∧ ∀ img, readable → good → parseImage s.memory.content = some img →
      (applyImage img s = none → LeadsTo (.imageLoadEnd responds) s (configuring .imageBad s))
      ∧ ∀ u, applyImage img s = some u →
        (img.autostart = false → LeadsTo (.imageLoadEnd responds) s (configuring .loaded u))
        ∧ (img.autostart = true → (∃ i, ¬ PassesStart u i) →
            LeadsTo (.imageLoadEnd responds) s (configuring .startFailed u))
        ∧ (img.autostart = true → (∀ i, PassesStart u i) →
            ∃ t, StartEffect { u with imageStatus := .loaded } t ∧ LeadsTo (.imageLoadEnd responds) s t))
  ∧ (∀ (img : Image) (s : State),
      (BandsRefused img.bands → applyImage img s = none)
      ∧ (¬ BandsRefused img.bands → ∃ t, SettingsOf img s t
          ∧ applyImage img s = (defineObjects img.objects t).bind (defineOutputs img.outputs)))
  ∧ (∀ s : State, defineObjects [] s = some s ∧ defineOutputs [] s = some s)
  ∧ (∀ (f : ObjectForm) (fs : List ObjectForm) (s : State),
      (ObjectRefused s f → defineObjects (f :: fs) s = none)
      ∧ ∀ n : ObjId, ¬ ObjectRefused s f → n.val = f.number.toNat →
        ∃ t, DefinesObject f n s t ∧ defineObjects (f :: fs) s = defineObjects fs t)
  ∧ ∀ (f : OutputForm) (fs : List OutputForm) (s : State),
      (OutputRefused s f → defineOutputs (f :: fs) s = none)
      ∧ ∀ i : OutId, ¬ OutputRefused s f → i.val = f.number.toNat →
        ∃ t, DefinesOutput f i s t ∧ defineOutputs (f :: fs) s = defineOutputs fs t

/-- Store Image and its end (R98, R172, R173): BUSY while a store is in progress, BAD_FORM for another option, the copy
or the erasure begun; what the copy holds; IMAGE_STORED with the new image and its check or a signature other than GW,
IMAGE_FAILED with a partial image whose check fails and whose signature is free (log 8). The definitions stand in
ascending number, and the form of a definition is that of the message that gives it (log 7). -/
def Obligations.StoreImage : Prop :=
  (∀ (s : State) (body : List Byte), ReadyLoaded s → s.store ≠ none → Refuses (.storeImage body) 0x30 .busy s)
  ∧ (∀ (s : State) (b : Byte), ReadyLoaded s → s.store = none →
      (2 < b.toNat → Refuses (.storeImage [b]) 0x30 .badForm s)
      ∧ (b = 2 → AnswersWith (.storeImage [b]) 0x30 .accepted []
          { received s with store := some { start := s.clock, copy := none } } s)
      ∧ (b.toNat ≤ 1 → AnswersWith (.storeImage [b]) 0x30 .accepted []
          { received s with store := some { start := s.clock, copy := some (imageOf (decide (b = 1)) s) } } s))
  ∧ (∀ (s : State) (autostart : Bool),
      let img := imageOf autostart s
      img.autostart = autostart
      ∧ (∀ g, img.groups.get g = { filterMs := BitVec.ofNat 8 (s.group g).filterMs, survey := (s.group g).survey
                                   refRes := BitVec.ofNat 16 (s.group g).refRes })
      ∧ (∀ i, img.bands.get i = (s.bands.get i).map fun b => (BitVec.ofNat 16 b.min, BitVec.ofNat 16 b.max))
      ∧ img.timing = { settleInMs := BitVec.ofNat 16 s.timing.settleInMs
                       conflictMs := BitVec.ofNat 16 s.timing.conflictMs
                       windowS := BitVec.ofNat 8 s.timing.windowS
                       silenceMs := BitVec.ofNat 16 s.timing.silenceMs }
      ∧ img.reporting = s.reporting
      ∧ img.survey = { intervalMs := BitVec.ofNat 16 s.surveySet.intervalMs
                       degrade := BitVec.ofNat 16 s.surveySet.degrade
                       clear := BitVec.ofNat 16 s.surveySet.clear }
      ∧ (∀ f, f ∈ img.objects ↔ ∃ n o, s.object n = some o ∧ f = o.cfg.form n)
      ∧ img.objects.Pairwise (fun f g => f.number.toNat < g.number.toNat)
      ∧ (∀ f, f ∈ img.outputs ↔ ∃ i x, s.output i = some x ∧ f = x.cfg.form i)
      ∧ img.outputs.Pairwise (fun f g => f.number.toNat < g.number.toNat))
  ∧ ∀ (s : State) (job : StoreJob), s.inReset = false → s.store = some job →
      let stored : ConfigMemory → State := fun m => request .part .routine { s with
        store := none
        part := { s.part with imageStored := true }
        memory := m }
      (∀ img, job.copy = some img → LeadsTo (.storeEnd true) s
        (stored { signature := 0x4757#16, content := img.bytes, check := crc img.bytes }))
      ∧ (job.copy = none → ∃ sig, sig ≠ 0x4757#16 ∧ LeadsTo (.storeEnd true) s
        (stored { s.memory with signature := sig }))
      ∧ ∃ m : ConfigMemory, m.check ≠ crc m.content
        ∧ LeadsTo (.storeEnd false) s (request .part .urgent { s with
            store := none
            free := s.free + 1
            part := { s.part with imageFailed := true }
            memory := m })

/-- A stored object or output definition is the definition again when the image is loaded, with nothing moved by
clamping (R170, R172); the bytes of the copy are read back as the copy, and settings in their ranges load as the
settings that were copied. The stored form is the model's (log 7), and a parameter the kind does not use is stored and
held as 0 (log 25). -/
def Obligations.StoredDefinitionsLoadBack : Prop :=
  (∀ (n : ObjId) (d : ObjDef), d.tag ≤ 4095 → (d.chatterLimit = 0 ∨ (2 ≤ d.chatterLimit ∧ d.chatterLimit ≤ 60)) →
      (∀ b, d.kind = .pair b → d.pointA ≠ b) →
      (match d.kind with
        | .single _ => d.transitMs = 0 ∧ d.steadyMs = 0 ∧ d.service ≤ 65535
        | .pair _ => 20 ≤ d.transitMs ∧ d.transitMs ≤ 5000 ∧ d.steadyMs = 0 ∧ d.service ≤ 65535
        | .coded => d.transitMs = 0 ∧ 200 ≤ d.steadyMs ∧ d.steadyMs ≤ 10000 ∧ d.service = 0) →
      (d.form n).kindOf = some d.kind ∧ flagOfByte (d.form n).urgent = some d.urgent
      ∧ objectNumber (d.form n).number = some n
      ∧ (d.form n).definition d.kind d.urgent = { cfg := d, moved := false }
      ∧ ObjectFits (d.form n) ∧ (d.form n).number.toNat = n.val ∧ objectGiven (d.form n) = d)
  ∧ (∀ (s : State) (autostart : Bool), parseImage (imageOf autostart s).bytes = some (imageOf autostart s))
  ∧ (∀ (s v t : State) (autostart : Bool), SettingsInRange s → SettingsOf (imageOf autostart s) v t →
      (∀ g, t.group g = { s.group g with refFault := false }) ∧ (∀ i, t.bands.get i = s.bands.get i)
      ∧ t.timing = s.timing ∧ t.reporting = s.reporting ∧ t.surveySet = s.surveySet)
  ∧ ∀ (i : OutId) (d : OutDef), d.tag ≤ 4095 → 20 ≤ d.pulseMs → d.pulseMs ≤ 10000 → 100 ≤ d.provingMs →
      d.provingMs ≤ 60000 → d.partner ≠ some i → (d.proving = none → d.expected = none) →
      (d.proving ≠ none → d.expected = some .picked ∨ d.expected = some .dropped ∨ d.expected = some .steadyMade
        ∨ d.expected = some .steadyOpen ∨ ∃ k, d.expected = some (.code k)) →
      (d.form i).badForm = false ∧ (d.form i).outOfRange = false ∧ outputNumber (d.form i).number = some i
      ∧ (d.form i).definition = { cfg := d, moved := false }
      ∧ (d.form i).number.toNat = i.val ∧ OutputGives (d.form i) d

/-- The RUN lamp toggles each half second in CONFIGURING; the three lamps follow their conditions (R174). -/
def Obligations.Lamps : Prop :=
  (∀ s : State, s.inReset = false → s.partState = .configuring → 5000 ≤ interval s.flashStart s.clock →
      LeadsTo .lampFlash s { s with flashLit := !s.flashLit, flashStart := after s.flashStart 5000 })
  ∧ ∀ s : State,
      (s.inReset = true → s.runLamp = false ∧ s.linkLamp = false ∧ s.alarmLamp = false)
      ∧ (s.inReset = false →
        (s.partState = .running → s.runLamp = true) ∧ (s.partState = .loading → s.runLamp = false)
        ∧ (s.partState = .configuring → s.runLamp = s.flashLit)
        ∧ (s.linkLamp = true ↔ s.goodFrame = true ∧ s.deskSilent = false)
        ∧ (s.alarmLamp = true ↔ (∃ i x, s.output i = some x ∧ x.state = .faulted)
            ∨ (∃ g, (s.group g).refFault = true) ∨ s.urgent ≠ []))

/-! ## Outputs -/

/-- Pulse Output (R112, R114, R115, R122): the tests in their order; accepted, from OFF or as a re-trigger, the staged
lengths apply, the output is PULSING to its end time, its driver is taken against the readback, and a proof starts. -/
def Obligations.PulseOutput : Prop :=
  ∀ (s : State) (num : Byte), ReadyRunning s →
    ((∀ i : OutId, i.val = num.toNat → s.output i = none) → Refuses (.pulseOutput [num]) 0x10 .noSuch s)
    ∧ ∀ (i : OutId) (x : Output), i.val = num.toNat → s.output i = some x →
      (x.state = .latched → Refuses (.pulseOutput [num]) 0x10 .wrongState s)
      ∧ (x.state = .faulted → Refuses (.pulseOutput [num]) 0x10 .driverFaulted s)
      ∧ (x.state ≠ .latched → x.state ≠ .faulted → ExclusionFails s x →
          Refuses (.pulseOutput [num]) 0x10 .excluded s)
      ∧ (x.state ≠ .latched → x.state ≠ .faulted → ¬ ExclusionFails s x →
          AnswersWith (.pulseOutput [num]) 0x10 .accepted [] (startProof i .pulse ((received s).setOutput i { x with
            cfg := appliedLengths x
            stagedPulse := none
            stagedProving := none
            state := .pulsing (after s.clock ((appliedLengths x).pulseMs * 10))
            mismatch := mismatchNow s i true x.mismatch })) s)

/-- Latch Output (R114, R117, R134): the tests in their order; from OFF with a new proof, from PULSING ending a proof
that awaits its pulse's end, from LATCHED without effect. -/
def Obligations.LatchOutput : Prop :=
  ∀ (s : State) (num : Byte), ReadyRunning s →
    ((∀ i : OutId, i.val = num.toNat → s.output i = none) → Refuses (.latchOutput [num]) 0x11 .noSuch s)
    ∧ ∀ (i : OutId) (x : Output), i.val = num.toNat → s.output i = some x →
      (x.cfg.mode = .pulseOnly → Refuses (.latchOutput [num]) 0x11 .badForm s)
      ∧ (x.cfg.mode = .latchable → x.state = .faulted → Refuses (.latchOutput [num]) 0x11 .driverFaulted s)
      ∧ (x.cfg.mode = .latchable → x.state ≠ .faulted → ExclusionFails s x →
          Refuses (.latchOutput [num]) 0x11 .excluded s)
      ∧ (x.cfg.mode = .latchable → x.state ≠ .faulted → ¬ ExclusionFails s x →
        let on : State := (received s).setOutput i { x with
          cfg := appliedLengths x
          stagedPulse := none
          stagedProving := none
          state := .latched
          mismatch := mismatchNow s i true x.mismatch }
        (x.state = .off → AnswersWith (.latchOutput [num]) 0x11 .accepted [] (startProof i .latch on) s)
        ∧ (∀ e, x.state = .pulsing e → (s.proof i).phase = .awaitingPulseEnd →
            AnswersWith (.latchOutput [num]) 0x11 .accepted [] (endProof i .noProof 0 on) s)
        ∧ (∀ e, x.state = .pulsing e → (s.proof i).phase ≠ .awaitingPulseEnd →
            AnswersWith (.latchOutput [num]) 0x11 .accepted [] on s)
        ∧ (x.state = .latched → Answers (.latchOutput [num]) 0x11 .accepted [] id s))

/-- Release Output (R118, R128, R134), by the state of the output and its readback. -/
def Obligations.ReleaseOutput : Prop :=
  ∀ (s : State) (num : Byte), ReadyRunning s →
    ((∀ i : OutId, i.val = num.toNat → s.output i = none) → Refuses (.releaseOutput [num]) 0x12 .noSuch s)
    ∧ ∀ (i : OutId) (x : Output), i.val = num.toNat → s.output i = some x →
      let off : State := (received s).setOutput i { x with state := .off, mismatch := mismatchNow s i false x.mismatch }
      (x.state = .off → Answers (.releaseOutput [num]) 0x12 .accepted [] id s)
      ∧ (∀ e, x.state = .pulsing e → (s.proof i).phase = .awaitingPulseEnd →
          AnswersWith (.releaseOutput [num]) 0x12 .accepted [] (endProof i .noProof 0 off) s)
      ∧ (∀ e, x.state = .pulsing e → (s.proof i).phase ≠ .awaitingPulseEnd →
          AnswersWith (.releaseOutput [num]) 0x12 .accepted [] off s)
      ∧ (x.state = .latched → AnswersWith (.releaseOutput [num]) 0x12 .accepted [] off s)
      ∧ (x.state = .faulted → s.readbackOn i = false →
          AnswersWith (.releaseOutput [num]) 0x12 .accepted [] (request (.output i) .routine off) s)
      ∧ (x.state = .faulted → s.readbackOn i = true → Refuses (.releaseOutput [num]) 0x12 .driverFaulted s)

/-- Group Pulse (R114, R119, R120). Of two members: the tests in their order, and one end time for both, each with its
own new proof, the first named first. Of any members: malformed counts and repeats, a member not defined, a member
LATCHED, one FAULTED, an exclusion inside or outside the group, in that order, and what an accepted group leaves at
each member and at every other output. Each member is entered, and its old proof ended,
in list order (log 14). -/
def Obligations.GroupPulse : Prop :=
  (∀ (s : State) (m1 m2 m3 m4 w1 w0 : Byte), ReadyRunning s →
      let body : List Byte := [2, m1, m2, m3, m4, w1, w0]
      (m1 = m2 → Refuses (.groupPulse body) 0x13 .badForm s)
      ∧ (m1 ≠ m2 → (∀ i : OutId, i.val = m1.toNat ∨ i.val = m2.toNat → s.output i = none) →
          Refuses (.groupPulse body) 0x13 .noSuch s)
      ∧ ∀ (i j : OutId) (x y : Output), i.val = m1.toNat → j.val = m2.toNat → i ≠ j → s.output i = some x →
          s.output j = some y → x.cfg.partner ≠ some i → y.cfg.partner ≠ some j →
        let latchedOne : Prop := x.state = .latched ∨ y.state = .latched
        let faultedOne : Prop := x.state = .faulted ∨ y.state = .faulted
        let each_ : Prop := x.cfg.partner = some j ∧ y.cfg.partner = some i
        let outside : Prop := (x.cfg.partner ≠ some j ∧ ExclusionFails s x)
          ∨ (y.cfg.partner ≠ some i ∧ ExclusionFails s y)
        (latchedOne → Refuses (.groupPulse body) 0x13 .wrongState s)
        ∧ (¬ latchedOne → faultedOne → Refuses (.groupPulse body) 0x13 .driverFaulted s)
        ∧ (¬ latchedOne → ¬ faultedOne → each_ ∨ outside → Refuses (.groupPulse body) 0x13 .excluded s)
        ∧ (¬ latchedOne → ¬ faultedOne → ¬ each_ → ¬ outside →
          let e : Time := after s.clock (clamp 20 10000 (num2 w1 w0) * 10)
          let on : OutId → Output → Output := fun k z => { z with
            cfg := appliedLengths z, stagedPulse := none, stagedProving := none, state := .pulsing e,
            mismatch := mismatchNow s k true z.mismatch }
          let t : State := startProof j .group (startProof i .group (((received s).setOutput i (on i x)).setOutput j (on j y)))
          (Outside 20 10000 (num2 w1 w0) → AnswersWith (.groupPulse body) 0x13 .acceptedClamped [] t s)
          ∧ (¬ Outside 20 10000 (num2 w1 w0) → AnswersWith (.groupPulse body) 0x13 .accepted [] t s)))
  ∧ (∀ (s : State) (count m1 m2 m3 m4 w1 w0 : Byte), ReadyRunning s →
      let body : List Byte := [count, m1, m2, m3, m4, w1, w0]
      let names : List Byte := [m1, m2, m3, m4].take count.toNat
      let fits : Prop := 2 ≤ count.toNat ∧ count.toNat ≤ 4 ∧ names.Nodup
      (¬ fits → Refuses (.groupPulse body) 0x13 .badForm s)
      ∧ (fits → (∃ b ∈ names, ∀ i : OutId, i.val = b.toNat → s.output i = none) →
          Refuses (.groupPulse body) 0x13 .noSuch s)
      ∧ (∀ members : List OutId, fits → members.map (fun i => BitVec.ofNat 8 i.val) = names →
        (∀ i ∈ members, s.output i ≠ none) →
        let someIn : OutState → Prop := fun st => ∃ i x, i ∈ members ∧ s.output i = some x ∧ x.state = st
        let partners : Prop := ∃ i j x y, i ∈ members ∧ j ∈ members ∧ s.output i = some x ∧ s.output j = some y
          ∧ x.cfg.partner = some j ∧ y.cfg.partner = some i
        let outside : Prop := ∃ i j x, i ∈ members ∧ s.output i = some x ∧ x.cfg.partner = some j ∧ j ∉ members
          ∧ ExclusionFails s x
        (someIn .latched → Refuses (.groupPulse body) 0x13 .wrongState s)
        ∧ (¬ someIn .latched → someIn .faulted → Refuses (.groupPulse body) 0x13 .driverFaulted s)
        ∧ (¬ someIn .latched → ¬ someIn .faulted → partners ∨ outside → Refuses (.groupPulse body) 0x13 .excluded s))
      ∧ ∀ members : List OutId, fits → members.map (fun i => BitVec.ofNat 8 i.val) = names →
        (∀ i ∈ members, ∃ x, s.output i = some x ∧ x.state ≠ .latched ∧ x.state ≠ .faulted
          ∧ (∀ j y, x.cfg.partner = some j → j ∈ members → s.output j = some y → y.cfg.partner ≠ some i)
          ∧ (∀ j, x.cfg.partner = some j → j ∉ members → ¬ ExclusionFails s x)) →
        ∃ t code, AnswersWith (.groupPulse body) 0x13 code [] t s
          ∧ (code = .acceptedClamped ↔ Outside 20 10000 (num2 w1 w0)) ∧ (code = .acceptedClamped ∨ code = .accepted)
          ∧ t = { received s with outputs := t.outputs, proofs := t.proofs, urgent := t.urgent, routine := t.routine }
          ∧ (∀ j, j ∉ members → t.output j = s.output j ∧ t.proof j = s.proof j)
          ∧ ∀ i x, i ∈ members → s.output i = some x → ∃ y, t.output i = some y
            ∧ y.cfg = appliedLengths x ∧ y.stagedPulse = none ∧ y.stagedProving = none
            ∧ y.state = .pulsing (after s.clock (clamp 20 10000 (num2 w1 w0) * 10))
            ∧ (t.proof i).kind = some .group ∧ (t.proof i).start = s.clock
            ∧ (t.proof i).object = x.cfg.proving ∧ (t.proof i).expected = x.cfg.expected)

/-- Release All and the desk-silence expiry (R98, R121, R125, R127): every energised output is OFF, every proof in flight
ends ABANDONED with its outcome posted, and nothing else of any output changes; the outputs whose proofs ended request
urgent entries in ascending number, and no other entry moves; the expiry also sets the desk silent flag and posts
DESK_SILENCE. -/
def Obligations.ReleaseAllAndSilence : Prop :=
  ∀ s : State,
    let released : State → State → Prop := fun u t =>
      t = { u with outputs := t.outputs, proofs := t.proofs, urgent := t.urgent, routine := t.routine }
      ∧ (let asked : State := ((List.finRange 64).filter fun i =>
            (u.output i).isSome && decide ((u.proof i).phase ≠ .none)).foldl
            (fun w i => request (.output i) .urgent w) u;
          t.urgent = asked.urgent ∧ t.routine = asked.routine)
      ∧ (∀ src, (∀ i, src ≠ .output i) → holds t.urgent src = holds u.urgent src
          ∧ holds t.routine src = holds u.routine src)
      ∧ (∀ i, u.output i = none → t.output i = none ∧ t.proof i = u.proof i)
      ∧ ∀ i x, u.output i = some x →
        let quiet : Output := if x.state.energised = true
          then { x with state := .off, mismatch := mismatchNow u i false x.mismatch } else x
        ((u.proof i).phase = .none → t.output i = some quiet ∧ t.proof i = u.proof i
          ∧ holds t.urgent (.output i) = holds u.urgent (.output i)
          ∧ holds t.routine (.output i) = holds u.routine (.output i))
        ∧ ((u.proof i).phase ≠ .none →
          t.output i = some { quiet with result :=
            { outcome := some .abandoned, kind := (u.proof i).kind, start := (u.proof i).start, time := 0, unsent := true
              lost := if x.result.unsent = true then min (x.result.lost + 1) 255 else x.result.lost } }
          ∧ t.proof i = { u.proof i with phase := .none, deadline := none }
          ∧ holds t.urgent (.output i) = true)
    (ReadyRunning s → ∃ t, AnswersWith (.releaseAll []) 0x14 .accepted [] t s ∧ released (received s) t)
    ∧ (∀ d, s.inReset = false → s.partState = .running → s.silenceDeadline = some d → reached d s.clock = true →
      ∃ t, released { s with deskSilent := true, silenceDeadline := none } t
        ∧ LeadsTo .silenceDeadline s (request .part .urgent { t with part := { t.part with deskSilence := true } }))

/-- A proof begins (R120, R131, R133): one in flight ends ABANDONED first, then the first of three tests that applies decides
the course. A proof ends (R126, R127, R128, R140): its outcome is posted, over an unsent one with a count of the lost, and
the output requests an entry of the outcome's class; where none is in flight nothing ends. -/
def Obligations.ProofStartsAndEnds : Prop :=
  (∀ (s : State) (i : OutId) (kind : CmdKind),
      startProof i kind s = startProof i kind (endProof i .abandoned 0 s)
      ∧ ∀ x, (s.proof i).phase = .none → s.output i = some x →
        let p : Proof := { phase := .none, kind := some kind, start := s.clock, object := x.cfg.proving,
                           expected := x.cfg.expected, deadline := none }
        let ended : ProofOutcome → State := fun outcome =>
          request (.output i) .routine ((s.setProof i p).setOutput i { x with result :=
            { outcome := some outcome, kind := some kind, start := s.clock, time := 0, unsent := true
              lost := if x.result.unsent = true then min (x.result.lost + 1) 255 else x.result.lost } })
        (NothingToWatch s x.cfg.proving → kind = .latch → startProof i kind s = ended .noProof)
        ∧ (NothingToWatch s x.cfg.proving → kind ≠ .latch →
          startProof i kind s = s.setProof i { p with phase := .awaitingPulseEnd })
        ∧ (AlreadyThere s x.cfg.proving x.cfg.expected →
          startProof i kind s = ended .already)
        ∧ (¬ NothingToWatch s x.cfg.proving → ¬ AlreadyThere s x.cfg.proving x.cfg.expected →
          startProof i kind s = s.setProof i
            { p with phase := .watching, deadline := some (after s.clock (x.cfg.provingMs * 10)) }))
  ∧ (∀ (s : State) (i : OutId) (outcome : ProofOutcome) (time : Nat),
      ((s.proof i).phase = .none → endProof i outcome time s = s)
      ∧ ∀ x, (s.proof i).phase ≠ .none → s.output i = some x →
        endProof i outcome time s =
          request (.output i)
            (if outcome = .unproven ∨ outcome = .abandoned ∨ outcome = .driverFault then .urgent else .routine)
            ((s.setProof i { s.proof i with phase := .none, deadline := none }).setOutput i { x with result :=
              { outcome := some outcome, kind := (s.proof i).kind, start := (s.proof i).start, time := time, unsent := true
                lost := if x.result.unsent = true then min (x.result.lost + 1) 255 else x.result.lost } }))

/-- The ends of pulses and proofs, the driver check and the readback (R113, R116, R122, R123, R134, R136); a readback
change at an output that is not defined changes its input level alone (R110). A readback is sampled when it changes
(log 27). -/
def Obligations.OutputTimings : Prop :=
  (∀ (s : State) (i : OutId) (x : Output), s.output i = some x →
      (∀ e, s.inReset = false → x.state = .pulsing e → reached e s.clock = true →
        let off : State := s.setOutput i { x with state := .off, mismatch := mismatchNow s i false x.mismatch }
        ((s.proof i).phase = .awaitingPulseEnd → LeadsTo (.pulseEnd i) s (endProof i .noProof 0 off))
        ∧ ((s.proof i).phase ≠ .awaitingPulseEnd → LeadsTo (.pulseEnd i) s off))
      ∧ (∀ d, s.inReset = false → (s.proof i).phase = .watching → (s.proof i).deadline = some d →
          reached d s.clock = true → LeadsTo (.proofDeadline i) s (endProof i .unproven 0 s))
      ∧ (∀ m, s.inReset = false → s.partState = .running → x.state ≠ .faulted → x.mismatch = some m →
          200 ≤ interval m s.clock →
          LeadsTo (.driverCheckFault i) s (request (.output i) .urgent
            (endProof i .driverFault 0 (s.setOutput i { x with state := .faulted, mismatch := none }))))
      ∧ ∀ on : Bool,
        (s.partState ≠ .running → LeadsTo (.readbackChange i on) s { s with readback := upd s.readback i on })
        ∧ (s.partState = .running → LeadsTo (.readbackChange i on) s
            (({ s with readback := upd s.readback i on } : State).setOutput i { x with
              mismatch := if x.state = .faulted ∨ x.state.energised = on then none else x.mismatch.or (some s.clock) })))
  ∧ (∀ (s : State) (i : OutId) (on : Bool), s.output i = none →
      LeadsTo (.readbackChange i on) s { s with readback := upd s.readback i on })

/-- A committed change ends each proof that watches its object for its value, ALREADY where the change time precedes
the start and PROVEN otherwise; every other proof and output stays as it was (R135, R140; the order of the requests is
free, log 13). -/
def Obligations.CommittedChangeProves : Prop :=
  ∀ (s : State) (n : ObjId) (v : Indication) (t : Time),
    let u := notifyProofs n v t s
    let watching : OutId → Prop := fun i =>
      (s.proof i).phase = .watching ∧ (s.proof i).object = some n ∧ (s.proof i).expected = some v
    u = { s with outputs := u.outputs, proofs := u.proofs, urgent := u.urgent, routine := u.routine, free := u.free }
    ∧ (∀ i, ¬ watching i → u.output i = s.output i ∧ u.proof i = s.proof i)
    ∧ ∀ i x, watching i → s.output i = some x →
      let start := (s.proof i).start
      u.proof i = { s.proof i with phase := .none, deadline := none }
      ∧ (holds u.urgent (.output i) || holds u.routine (.output i)) = true
      ∧ u.output i = some { x with result :=
          { outcome := some (if precedes t start then .already else .proven)
            kind := (s.proof i).kind
            start := start
            time := if precedes t start then 0 else min (t - start).toNat 65535
            unsent := true
            lost := if x.result.unsent = true then min (x.result.lost + 1) 255 else x.result.lost } }

/-! ## Contact survey -/

/-- An attempt (R144, R145, R146): the first point from the cursor upward that may be measured is chosen, the cursor
moves past it, and the next attempt is one interval after this one; with none the attempt is skipped. -/
def Obligations.SurveyAttempt : Prop :=
  ∀ (s : State) (a : Time), s.inReset = false → s.partState = .running → s.nextAttempt = some a →
    reached a s.clock = true →
    let t : State := { s with nextAttempt := some (after a (s.surveySet.intervalMs * 10)) }
    (∀ k : Fin 256, MayBeMeasured s (s.surveyCursor + k) →
      (∀ j : Fin 256, j < k → ¬ MayBeMeasured s (s.surveyCursor + j)) →
      LeadsTo .surveyAttempt s { t with
        surveyCursor := s.surveyCursor + k + 1
        measure := some { phase := .reference, point := s.surveyCursor + k, start := a } })
    ∧ ((∀ p, ¬ MayBeMeasured s p) → LeadsTo .surveyAttempt s t)

/-- The end of the reference gate (R98, R146, R147), by the count and the flag of the group; the end of the point gate
(R146, R150, R152): the measurement ends, the health record takes the resistance, and a change of the point's
degraded flag is handed to its owner. The reference resistance is read at the end of the point gate (log 30). -/
def Obligations.SurveyGates : Prop :=
  (∀ (s : State) (m : Measurement) (count : Nat), s.inReset = false → s.measure = some m → m.phase = .reference →
      100 ≤ interval m.start s.clock →
      let g := groupOf m.point
      let stopped : State := { s with measure := none }
      let goesOn : State := { s with measure := some { m with phase := .point (min count 65535) } }
      (count < 500 → (s.group g).refFault = false →
        LeadsTo (.referenceGateEnd count) s (request .part .urgent
          { stopped.setGroup g { s.group g with refFault := true } with
            part := { s.part with refFault := s.part.refFault ||| (1#16 <<< g.val) } }))
      ∧ (count < 500 → (s.group g).refFault = true → LeadsTo (.referenceGateEnd count) s stopped)
      ∧ (500 ≤ count → (s.group g).refFault = true →
        LeadsTo (.referenceGateEnd count) s (request .part .routine
          { goesOn.setGroup g { s.group g with refFault := false } with
            part := { s.part with refRestored := s.part.refRestored ||| (1#16 <<< g.val) } }))
      ∧ (500 ≤ count → (s.group g).refFault = false → LeadsTo (.referenceGateEnd count) s goesOn))
  ∧ (∀ (s : State) (m : Measurement) (refCount count : Nat), s.inReset = false → s.measure = some m →
      m.phase = .point refCount → 200 ≤ interval m.start s.clock →
      let p := m.point
      let h := s.healthOf p
      let r := loopResistance (s.group (groupOf p)).refRes refCount (min count 65535)
      let h' := h.measured s.surveySet r
      let t : State := ({ s with measure := none } : State).setHealth p h'
      (h'.last = r ∧ h'.highest = max h.highest r ∧ h'.count = min (h.count + 1) 65535)
      ∧ (h'.degraded = h.degraded → LeadsTo (.pointGateEnd count) s t)
      ∧ (h'.degraded ≠ h.degraded → (s.point p).owner = none → LeadsTo (.pointGateEnd count) s t)
      ∧ ∀ n o, h'.degraded ≠ h.degraded → (s.point p).owner = some n → s.object n = some o →
        let now : Prop := ∃ q ∈ o.cfg.points, (t.healthOf q).degraded = true
        (now → o.degraded = true → LeadsTo (.pointGateEnd count) s (t.setObject n o))
        ∧ (¬ now → o.degraded = false → LeadsTo (.pointGateEnd count) s (t.setObject n o))
        ∧ (now → o.degraded = false → LeadsTo (.pointGateEnd count) s (request (.object n) .routine
            (t.setObject n { o with degraded := true, events := o.events ||| Event.degradedOn.bit })))
        ∧ (¬ now → o.degraded = true → LeadsTo (.pointGateEnd count) s (request (.object n) .routine
            (t.setObject n { o with degraded := false, events := o.events ||| Event.degradedOff.bit }))))

/-- R149 and R151: the loop resistance, and the judgment of a result against the two thresholds. -/
def Obligations.ResistanceJudged : Prop :=
  (∀ refRes refCount : Nat, loopResistance refRes refCount 0 = 65535)
  ∧ (∀ refRes refCount count : Nat, 0 < count →
      loopResistance refRes refCount count = min ((refRes * refCount + count / 2) / count) 65535)
  ∧ ∀ (set : SurveySettings) (r : Nat) (h : Health), h.overCount ≤ 2 → set.clear < set.degrade →
    let h' := h.measured set r
    (set.degrade < r → h'.overCount = min (h.overCount + 1) 2
      ∧ (h'.degraded = true ↔ h.degraded = true ∨ h'.overCount = 2))
    ∧ (set.clear < r → r ≤ set.degrade → h'.overCount = 0 ∧ h'.degraded = h.degraded)
    ∧ (r ≤ set.clear → h'.overCount = 0 ∧ h'.degraded = false)

/-! ## Reads -/

/-- Read Object and Read Output (R37, R129, section 10.7): NO_SUCH where nothing is defined; otherwise the answer holds
every field of the record in the order of the layout, and nothing is changed. Read Points and Read Health (R15, R153):
one entry a point from the first upward, wrapping past 255; Read Points changes nothing, and Read Health clears the
highest and the count of the points reported where its option is on. The model's choices: a part of a Read Points
answer holds 22 entries and the last the rest (log 19); the desk tag takes two bytes in a Read Object answer (log 37),
whose suspended and unproven bits are free (log 17); unnamed bits are 0 (log 36); parameters the kind does not use are
0 (log 25). -/
def Obligations.ReadRecordsAndTables : Prop :=
  let flag : Bool → Byte := fun b => if b = true then 1 else 0
  let shownOrFF : Option Indication → Byte := fun v => (v.map Indication.byte).getD 0xFF
  (∀ (s : State) (num : Byte), ReadyLoaded s →
      let queue : Source → Byte := fun src =>
        if holds s.urgent src = true then 1 else if holds s.routine src = true then 2 else 0
      ((∀ n : ObjId, n.val = num.toNat → s.object n = none) → Refuses (.readObject [num]) 0x20 .noSuch s)
      ∧ ((∀ i : OutId, i.val = num.toNat → s.output i = none) → Refuses (.readOutput [num]) 0x21 .noSuch s)
      ∧ (∀ (n : ObjId) (o : Obj), n.val = num.toNat → s.object n = some o → ∃ (d : List Byte) (flags : Byte),
          Answers (.readObject [num]) 0x20 .accepted [d] id s
          ∧ d.length = 47 ∧ flags.getLsbD 0 = o.quarantined ∧ flags.getLsbD 2 = o.degraded
          ∧ d = [num, (match o.cfg.kind with
                | .single _ => 0
                | .pair _ => 1
                | .coded => 2), BitVec.ofNat 8 o.cfg.pointA.val, (match o.cfg.kind with
                | .pair b => BitVec.ofNat 8 b.val
                | .single _ | .coded => 0xFF), (match o.cfg.kind with
                | .single .front => 0
                | .single .back => 1
                | .pair _ | .coded => 0xFF)]
            ++ be16 o.cfg.tag ++ [flag o.cfg.urgent] ++ be16 o.cfg.transitMs ++ [BitVec.ofNat 8 o.cfg.chatterLimit]
            ++ be16 o.cfg.steadyMs ++ be16 o.cfg.service
            ++ [flag o.staged.transit.isSome + 2 * flag o.staged.chatter.isSome + 4 * flag o.staged.steady.isSome]
            ++ be16 (o.staged.transit.getD 0) ++ [BitVec.ofNat 8 (o.staged.chatter.getD 0)]
            ++ be16 (o.staged.steady.getD 0)
            ++ [flag (decide (o.admission = .suspended)), o.shown.byte, o.reported.byte] ++ be32 o.lastChange
            ++ [BitVec.ofNat 8 o.changes, o.events, flags] ++ be16 o.opCount ++ [flag o.serviceLatch]
            ++ be16 o.pair.lastPickUp ++ be16 o.pair.lastDropAway
            ++ [(match o.pair.lastDir with
                | none => 0
                | some .pickUp => 1
                | some .dropAway => 2), (match o.evaluated with
                | .shown (.code k) => BitVec.ofNat 8 (k.val + 1)
                | _ => 0), shownOrFF o.code.candidate]
            ++ be16 o.code.lastRate ++ be16 (min o.code.lastOnTime 65535)
            ++ [BitVec.ofNat 8 o.code.lastDuty, queue (.object n)])
      ∧ ∀ (i : OutId) (x : Output), i.val = num.toNat → s.output i = some x → ∃ d : List Byte,
          Answers (.readOutput [num]) 0x21 .accepted [d] id s
          ∧ d.length = 48
          ∧ d = [num] ++ be16 x.cfg.tag ++ [flag (decide (x.cfg.mode = .latchable)),
              (match x.cfg.partner with
                | some j => BitVec.ofNat 8 j.val
                | none => 0xFF), (match x.cfg.proving with
                | some n => BitVec.ofNat 8 n.val
                | none => 0xFF), shownOrFF x.cfg.expected]
            ++ be16 x.cfg.pulseMs ++ be16 x.cfg.provingMs
            ++ [flag x.stagedPulse.isSome + 2 * flag x.stagedProving.isSome]
            ++ be16 (x.stagedPulse.getD 0) ++ be16 (x.stagedProving.getD 0)
            ++ [stateCode x.state] ++ (match x.state with
                | .pulsing e => be32 e
                | .off | .latched | .faulted => [0, 0, 0, 0])
            ++ [flag (s.readbackOn i), flag x.mismatch.isSome] ++ be32 (x.mismatch.getD 0)
            ++ [(match (s.proof i).phase with
                | .none => 0
                | .awaitingPulseEnd => 1
                | .watching => 2), commandCode (s.proof i).kind] ++ be32 (s.proof i).start
            ++ be32 ((s.proof i).deadline.getD 0)
            ++ [outcomeCode x.result.outcome, commandCode x.result.kind] ++ be32 x.result.start ++ be16 x.result.time
            ++ [flag x.result.unsent, BitVec.ofNat 8 x.result.lost, queue (.output i)])
  ∧ (∀ x : Point, ∃ levels : Byte, pointData x = [levels] ++ be32 x.runStart ++ be32 x.lastEdge
        ++ [BitVec.ofNat 8 x.glitch, (match x.owner with
          | some n => BitVec.ofNat 8 n.val
          | none => 0xFF)]
      ∧ (levels.getLsbD 0 = true ↔ x.raw = .made) ∧ (levels.getLsbD 1 = true ↔ x.filtered = .made)
      ∧ levels.toNat < 4)
  ∧ (∀ h : Health, h.overCount ≤ 2 → healthEntry h = be16 h.last ++ be16 h.highest ++ be16 h.count
      ++ [BitVec.ofNat 8 (h.overCount + if h.degraded = true then 128 else 0)])
  ∧ (∀ (s : State) (first count opt : Byte), ReadyLoaded s →
      let points : Nat := clamp 1 64 count.toNat
      let records : Nat := clamp 1 32 count.toNat
      let at_ : Nat → PointId := fun k => pointNumber (first + BitVec.ofNat 8 k)
      (∃ parts : List (List Byte), Answers (.readPoints [first, count]) 0x22
          (codeFor (Outside 1 64 count.toNat)) parts id s
        ∧ parts.length = (points + 21) / 22
        ∧ ∀ k, k < points → ∃ part : List Byte, parts[k / 22]? = some part
          ∧ part[0]? = some (first + BitVec.ofNat 8 (22 * (k / 22)))
          ∧ part[1]? = some (BitVec.ofNat 8 (min 22 (points - 22 * (k / 22))))
          ∧ (part.drop (2 + 11 * (k % 22))).take 11 = pointData (s.point (at_ k)))
      ∧ (1 < opt.toNat → Refuses (.readHealth [first, count, opt]) 0x23 .badForm s)
      ∧ (opt.toNat ≤ 1 → ∃ t, ∃ d : List Byte,
        AnswersWith (.readHealth [first, count, opt]) 0x23 (codeFor (Outside 1 32 count.toNat)) [d] t s
        ∧ t = { received s with health := t.health }
        ∧ d.length = 2 + 7 * records ∧ d[0]? = some first ∧ d[1]? = some (BitVec.ofNat 8 records)
        ∧ (∀ k, k < records → (d.drop (2 + 7 * k)).take 7 = healthEntry (s.healthOf (at_ k)))
        ∧ ∀ p, t.healthOf p = if opt = 1 ∧ ∃ k, k < records ∧ p = at_ k
            then { s.healthOf p with highest := 0, count := 0 } else s.healthOf p))

/-- Read Clock and Read Status, in every part state (R1, R165, section 10.7): the clock at execution; every field of the
status at its place, the reference fault set and the faulted outputs counted from the records (log 24), with the four
link error counts zeroed once they are taken. -/
def Obligations.ReadClockAndStatus : Prop :=
  ∀ s : State, Ready s →
    (∃ b3 b2 b1 b0 : Byte, b3 ++ b2 ++ b1 ++ b0 = s.clock ∧
      Answers (.readClock []) 0x24 .accepted [[b3, b2, b1, b0]] id s)
    ∧ ∃ d : List Byte, Answers (.readStatus []) 0x25 .accepted [d]
        (fun u => { u with errors := { length := 0, check := 0, abandoned := 0, overruns := 0 } }) s
      ∧ d.length = 30 ∧ d[0]? = some s.partState.byte ∧ d[1]? = some s.imageStatus.byte
      ∧ d[2]? = some (if s.store.isSome = true then 1 else 0) ∧ d[3]? = some s.baud.byte
      ∧ (d.drop 4).take 4 = be32 s.clock ∧ (d.drop 8).take 2 = be16 s.errors.length
      ∧ (d.drop 10).take 2 = be16 s.errors.check ∧ (d.drop 12).take 2 = be16 s.errors.abandoned
      ∧ (d.drop 14).take 2 = be16 s.errors.overruns ∧ d[16]? = some (BitVec.ofNat 8 s.urgent.length)
      ∧ d[17]? = some (BitVec.ofNat 8 (received s).routine.length) ∧ d[18]? = some s.reporting.ratio.byte
      ∧ d[19]? = some (BitVec.ofNat 8 s.urgentRun) ∧ d[20]? = some s.reporting.position.byte
      ∧ d[21]? = some (if s.snapshot.isSome = true then 1 else 0)
      ∧ (∀ w, s.window = some w → (d.drop 22).take 4 = be32 w.start)
      ∧ (s.window = none → (d.drop 22).take 4 = [0, 0, 0, 0])
      ∧ (∃ hi lo : Byte, (d.drop 26).take 2 = [hi, lo]
          ∧ ∀ g : GroupId, (hi ++ lo).getLsbD g.val = (s.group g).refFault)
      ∧ d[28]? = some (BitVec.ofNat 8 ((List.finRange 64).filter fun i =>
          (s.output i).any fun x => decide (x.state = .faulted)).length)
      ∧ d[29]? = some (if (received s).deskSilent = true then 1 else 0)

/-! ## Report scheduler -/

/-- Snapshot and Reset as messages (R103, R163): BUSY while a snapshot is in progress; otherwise it is set to begin
with the position in force; an accepted Reset closes the receiver. -/
def Obligations.SnapshotAndReset : Prop :=
  ∀ s : State,
    (∀ body, ReadyRunning s → s.snapshot ≠ none → Refuses (.snapshot body) 0x18 .busy s)
    ∧ (ReadyRunning s → s.snapshot = none → AnswersWith (.snapshot []) 0x18 .accepted []
        { received s with snapshot := some { position := s.reporting.position, cursor := .snapBegin, sent := 0 } } s)
    ∧ (ReadyLoaded s → AnswersWith (.reset []) 0x31 .accepted []
        { received s with rx := { phase := .hunt, kept := [], closed := true } } s)

/-- R99 and R100: a busy transmitter waits; an answer goes first; with urgent and routine work both waiting the ratio
mode decides and counts; one kind alone is sent, and nothing waiting leaves the transmitter idle. The choice is
made at the end of a step (log 11). Routine work is the snapshot's next frame while a snapshot is in progress, and the
head of the routine queue otherwise. -/
def Obligations.SchedulerChoice : Prop :=
  ∀ s : State,
    let work : Prop := s.snapshot ≠ none ∨ s.routine ≠ []
    let n : Nat := match s.reporting.ratio with
      | .strict => 0
      | .r8 => 8
      | .r4 => 4
      | .r2 => 2
    (s.tx ≠ none → schedule s = s)
    ∧ (∀ p, s.snapshot = some p → sendRoutine s = sendSnapshot p s)
    ∧ (∀ e rest, s.snapshot = none → s.routine = e :: rest → sendRoutine s = sendEntry e false s)
    ∧ (s.tx = none → ∀ a rest, s.answers = a :: rest →
        schedule s = transmit a.frames.1 a.frames.2 (decide (a.echo = 0x31 ∧ a.code = .accepted))
          { s with answers := rest })
    ∧ (s.tx = none → s.answers = [] → s.urgent = [] → ¬ work → schedule s = s)
    ∧ (s.tx = none → s.answers = [] → s.urgent = [] → work → schedule s = sendRoutine { s with urgentRun := 0 })
    ∧ (s.tx = none → s.answers = [] → ∀ e rest, s.urgent = e :: rest →
        (¬ work → schedule s = sendEntry e true s)
        ∧ (work → s.reporting.ratio = .strict → schedule s = sendEntry e true s)
        ∧ (work → s.reporting.ratio ≠ .strict → s.urgentRun < n →
            schedule s = sendEntry e true { s with urgentRun := s.urgentRun + 1 })
        ∧ (work → s.reporting.ratio ≠ .strict → s.urgentRun = n →
            schedule s = sendRoutine { s with urgentRun := 0 }))

/-- R96 for each source: the report of an entry is built from the record, its entry is removed, and the news it delivered
is cleared, in one step; an OUTCOME REPORT shows the outcome while it is unsent (R128). R105 to R108 for the snapshot
record of each source: beside an urgent entry it carries no event and no outcome and clears nothing, its outcomes-lost
count being the count or 0 (log 18); otherwise it carries and clears the news and takes up a routine entry. -/
def Obligations.ReportsAndSnapshotRecords : Prop :=
  (∀ (s : State) (e : Entry) (urgent : Bool),
      let marks : Marks := { urgent := urgent, snapshot := false, urgentPending := false }
      let removed : State := { s with urgent := s.urgent.filter fun k => decide (k.source ≠ e.source)
                                      routine := s.routine.filter fun k => decide (k.source ≠ e.source) }
      (∀ n o, e.source = .object n → s.object n = some o → sendEntry e urgent s =
        transmit (stateReport n o o.events marks e.created) [] false
          (removed.setObject n { o with events := 0, changes := 0 }))
      ∧ (∀ i x, e.source = .output i → s.output i = some x → sendEntry e urgent s =
        transmit (outcomeReport i x (s.readbackOn i) x.result.shown marks e.created) [] false
          (removed.setOutput i { x with result := { x.result with unsent := false, lost := 0 } }))
      ∧ (e.source = .part → sendEntry e urgent s =
        transmit (partReport s s.part marks e.created) [] false
          { removed with part :=
            { refFault := 0, refRestored := 0, deskSilence := false, imageStored := false, imageFailed := false } }))
  ∧ (∀ r : OutcomeRec,
      (r.unsent = true →
        r.shown = { outcome := r.outcome, kind := r.kind, start := r.start, time := r.time, lost := r.lost })
      ∧ (r.unsent = false → r.shown = { outcome := none, kind := none, start := 0, time := 0, lost := r.lost }))
  ∧ (∀ s : State,
      let beside : Marks := { urgent := false, snapshot := true, urgentPending := true }
      let alone : Marks := { urgent := false, snapshot := true, urgentPending := false }
      let removed : Source → State := fun src =>
        { s with urgent := s.urgent.filter fun k => decide (k.source ≠ src)
                 routine := s.routine.filter fun k => decide (k.source ≠ src) }
      (∀ n o, s.object n = some o →
        (holds s.urgent (.object n) = true → sendRecord (.object n) s =
          transmit (stateReport n o 0 beside s.clock) [] false s)
        ∧ (holds s.urgent (.object n) = false → sendRecord (.object n) s =
          transmit (stateReport n o o.events alone s.clock) [] false
            ((removed (.object n)).setObject n { o with events := 0, changes := 0 })))
      ∧ (∀ i x, s.output i = some x →
        (holds s.urgent (.output i) = true → ∃ lost, (lost = x.result.lost ∨ lost = 0)
          ∧ sendRecord (.output i) s = transmit (outcomeReport i x (s.readbackOn i)
            { outcome := none, kind := none, start := 0, time := 0, lost := lost } beside s.clock) [] false s)
        ∧ (holds s.urgent (.output i) = false → sendRecord (.output i) s =
          transmit (outcomeReport i x (s.readbackOn i) x.result.shown alone s.clock) [] false
            ((removed (.output i)).setOutput i { x with result := { x.result with unsent := false, lost := 0 } })))
      ∧ (let nothing : PartEvents :=
          { refFault := 0, refRestored := 0, deskSilence := false, imageStored := false, imageFailed := false };
        (holds s.urgent .part = true → sendRecord .part s =
          transmit (partReport s nothing beside s.clock) [] false s)
        ∧ (holds s.urgent .part = false → sendRecord .part s =
          transmit (partReport s s.part alone s.clock) [] false { removed .part with part := nothing })))

/-- The layouts of section 10.7 (R95, R97, R128): a STATE REPORT, 23 bytes, an OUTCOME REPORT, 19 bytes, and a PART
REPORT, 16 bytes, each in the order the table gives, with the value codes of their fields; and the framing of an answer
(R161, R162): TYPE 0x86, the echoed type, the answer code and the data, with part number and part count in the parts of
a long answer. Bits for which the layout names no use are 0 (log 36); the reference fault set and the faulted outputs
are counted from the records (log 24). -/
def Obligations.IndicationMessageLayouts : Prop :=
  (∀ n : Nat, n ≤ 65535 → ∃ hi lo : Byte, be16 n = [hi, lo] ∧ 256 * hi.toNat + lo.toNat = n)
  ∧ (∀ t : Time, ∃ b3 b2 b1 b0 : Byte, be32 t = [b3, b2, b1, b0] ∧ b3 ++ b2 ++ b1 ++ b0 = t)
  ∧ (∀ v : Indication, v.byte = match v with
      | .unproven => 0x00
      | .picked => 0x01
      | .dropped => 0x02
      | .lost => 0x03
      | .conflict => 0x04
      | .steadyMade => 0x05
      | .steadyOpen => 0x06
      | .code k => BitVec.ofNat 8 (0x11 + k.val)
      | .noCode => 0x1F)
  ∧ (∀ (n : ObjId) (o : Obj) (events : BitVec 8) (m : Marks) (entry : Time),
      let f := stateReport n o events m entry
      f.type = 0x81 ∧ f.body.length = 23 ∧ f.body[0]? = some (BitVec.ofNat 8 n.val)
      ∧ (f.body.drop 1).take 2 = be16 o.cfg.tag
      ∧ f.body[3]? = some (match o.cfg.kind with
          | .single _ => 0
          | .pair _ => 1
          | .coded => 2)
      ∧ f.body[4]? = some o.reported.byte
      ∧ (∃ flags : Byte, f.body[5]? = some flags ∧ flags.getLsbD 0 = o.quarantined
          ∧ (flags.getLsbD 1 = true ↔ o.admission = .suspended) ∧ flags.getLsbD 2 = o.degraded
          ∧ (flags.getLsbD 3 = true ↔ o.evaluated = .shown .unproven) ∧ flags.getLsbD 4 = m.urgent
          ∧ flags.getLsbD 5 = m.snapshot ∧ flags.getLsbD 6 = m.urgentPending ∧ flags.getLsbD 7 = false)
      ∧ f.body[6]? = some events ∧ f.body[7]? = some (BitVec.ofNat 8 o.changes)
      ∧ (f.body.drop 8).take 4 = be32 o.lastChange ∧ (f.body.drop 12).take 4 = be32 entry
      ∧ (f.body.drop 16).take 2 = be16 (match o.pair.lastDir with
          | some .pickUp => o.pair.lastPickUp
          | some .dropAway => o.pair.lastDropAway
          | none => 0)
      ∧ f.body[18]? = some (match o.pair.lastDir with
          | some .pickUp => 1
          | some .dropAway => 2
          | none => 0)
      ∧ f.body[19]? = some (match o.evaluated with
          | .shown (.code k) => BitVec.ofNat 8 (k.val + 1)
          | _ => 0)
      ∧ (f.body.drop 20).take 2 = be16 o.code.lastRate ∧ f.body[22]? = some (BitVec.ofNat 8 o.code.lastDuty))
  ∧ (∀ (i : OutId) (x : Output) (readback : Bool) (shown : OutcomeShown) (m : Marks) (entry : Time),
      let f := outcomeReport i x readback shown m entry
      f.type = 0x82 ∧ f.body.length = 19 ∧ f.body[0]? = some (BitVec.ofNat 8 i.val)
      ∧ (f.body.drop 1).take 2 = be16 x.cfg.tag ∧ f.body[3]? = some (stateCode x.state)
      ∧ f.body[4]? = some (if readback = true then 1 else 0) ∧ f.body[5]? = some (outcomeCode shown.outcome)
      ∧ f.body[6]? = some (commandCode shown.kind) ∧ (f.body.drop 7).take 4 = be32 shown.start
      ∧ (f.body.drop 11).take 2 = be16 shown.time ∧ f.body[13]? = some (BitVec.ofNat 8 shown.lost)
      ∧ (∃ flags : Byte, f.body[14]? = some flags ∧ flags.getLsbD 4 = m.urgent ∧ flags.getLsbD 5 = m.snapshot
          ∧ flags.getLsbD 6 = m.urgentPending ∧ flags.toNat % 16 = 0 ∧ flags.getLsbD 7 = false)
      ∧ (f.body.drop 15).take 4 = be32 entry)
  ∧ (∀ (s : State) (events : PartEvents) (m : Marks) (entry : Time),
      let f := partReport s events m entry
      f.type = 0x83 ∧ f.body.length = 16
      ∧ f.body[0]? = some (match s.partState with
          | .loading => 0
          | .configuring => 1
          | .running => 2)
      ∧ f.body[1]? = some (match s.imageStatus with
          | .noImage => 0
          | .imageBad => 1
          | .loaded => 2
          | .startFailed => 3)
      ∧ (∃ hi lo : Byte, (f.body.drop 2).take 2 = [hi, lo]
          ∧ ∀ g : GroupId, (hi ++ lo).getLsbD g.val = (s.group g).refFault)
      ∧ (∃ hi lo : Byte, (f.body.drop 4).take 2 = [hi, lo] ∧ hi ++ lo = events.refFault)
      ∧ (∃ hi lo : Byte, (f.body.drop 6).take 2 = [hi, lo] ∧ hi ++ lo = events.refRestored)
      ∧ (∃ set : Byte, f.body[8]? = some set ∧ set.getLsbD 0 = events.deskSilence
          ∧ set.getLsbD 1 = events.imageStored ∧ set.getLsbD 2 = events.imageFailed ∧ set.toNat < 8)
      ∧ f.body[9]? = some (if s.deskSilent = true then 1 else 0)
      ∧ f.body[10]? = some (BitVec.ofNat 8 ((List.finRange 64).filter fun i =>
          (s.output i).any fun x => decide (x.state = .faulted)).length)
      ∧ (∃ flags : Byte, f.body[11]? = some flags ∧ flags.getLsbD 4 = m.urgent ∧ flags.getLsbD 5 = m.snapshot
          ∧ flags.getLsbD 6 = m.urgentPending ∧ flags.toNat % 16 = 0 ∧ flags.getLsbD 7 = false)
      ∧ (f.body.drop 12).take 4 = be32 entry)
  ∧ ∀ a : Answer,
      let code : Byte := match a.code with
        | .accepted => 0x00
        | .acceptedClamped => 0x01
        | .wrongState => 0x10
        | .noSuch => 0x11
        | .badForm => 0x12
        | .inUse => 0x13
        | .excluded => 0x14
        | .driverFaulted => 0x15
        | .busy => 0x16
        | .overlap => 0x17
        | .badConfig => 0x18
        | .unknownType => 0x1F
      (a.data = [] → a.frames = ({ type := 0x86, body := [a.echo, code] }, []))
      ∧ (∀ d, a.data = [d] → a.frames = ({ type := 0x86, body := [a.echo, code] ++ d }, []))
      ∧ (2 ≤ a.data.length → (a.frames.1 :: a.frames.2).length = a.data.length
          ∧ ∀ k d, a.data[k]? = some d → (a.frames.1 :: a.frames.2)[k]? = some ({ type := 0x86, body :=
              [a.echo, code, BitVec.ofNat 8 (k + 1), BitVec.ofNat 8 a.data.length] ++ d } : Frame))

/-- R104: the frame a snapshot sends at its cursor, and where the cursor goes: SNAP_BEGIN, the objects ascending, the
outputs ascending, the part summary first or last, SNAP_END, which ends the snapshot. -/
def Obligations.SnapshotOrder : Prop :=
  ∀ (s : State) (p : Snapshot),
    let firstOutput : Cursor → Prop := fun c =>
      (∃ i : OutId, c = .output i ∧ (s.output i).isSome = true ∧ ∀ j : OutId, j < i → s.output j = none)
      ∨ ((∀ i, s.output i = none) ∧ c = if p.position = .last then .summary else .snapEnd)
    let firstObject : Cursor → Prop := fun c =>
      (∃ n : ObjId, c = .object n ∧ (s.object n).isSome = true ∧ ∀ m : ObjId, m < n → s.object m = none)
      ∨ ((∀ n, s.object n = none) ∧ firstOutput c)
    let next := nextCursor s p.position
    (p.cursor = .snapEnd → sendSnapshot p s =
      transmit { type := 0x85, body := be32 s.clock ++ [BitVec.ofNat 8 p.sent] } [] false { s with snapshot := none })
    ∧ (p.cursor = .snapBegin → sendSnapshot p s =
      transmit { type := 0x84, body := [BitVec.ofNat 8 s.definedObjects.length, BitVec.ofNat 8 s.definedOutputs.length,
          p.position.byte] ++ be32 s.clock } [] false
        { s with snapshot := some { p with cursor := next .snapBegin } })
    ∧ (∀ src, p.cursor.source = some src → sendSnapshot p s =
      sendRecord src { s with snapshot := some { p with cursor := next p.cursor, sent := p.sent + 1 } })
    ∧ (p.position = .first → next .snapBegin = .summary ∧ firstObject (next .summary))
    ∧ (p.position = .last → firstObject (next .snapBegin) ∧ next .summary = .snapEnd)
    ∧ (∀ n : ObjId,
        (∃ m : ObjId, n < m ∧ next (.object n) = .object m ∧ (s.object m).isSome = true
          ∧ ∀ k : ObjId, n < k → k < m → s.object k = none)
        ∨ ((∀ m : ObjId, n < m → s.object m = none) ∧ firstOutput (next (.object n))))
    ∧ ∀ i : OutId,
        (∃ j : OutId, i < j ∧ next (.output i) = .output j ∧ (s.output j).isSome = true
          ∧ ∀ k : OutId, i < k → k < j → s.output k = none)
        ∨ ((∀ j : OutId, i < j → s.output j = none)
            ∧ next (.output i) = if p.position = .last then .summary else .snapEnd)

/-- The end of a frame (R99, R162, R163): the next part of the same answer follows back to back; after a Reset answer
the reset is taken; otherwise the transmitter is free and the scheduler chooses. The reset of a Reset message is
taken by the same step (log 23). -/
def Obligations.FrameEnds : Prop :=
  ∀ (s : State) (x : Transmission), s.inReset = false → s.tx = some x →
    (∀ f fs, x.parts = f :: fs → exec .frameSent s = .next
      { s with tx := some { frame := f, parts := fs, start := s.clock, isReset := x.isReset } })
    ∧ (x.parts = [] → x.isReset = true → exec .frameSent s = exec .resetTaken s)
    ∧ (x.parts = [] → x.isReset = false → LeadsTo .frameSent s { s with tx := none })

/-! ## Invariants -/

/-- R92: no step brings a source into the queues a second time, and so the two together never hold more than 193
entries. -/
def Obligations.EachSourceQueuedOnce : Prop :=
  (∀ s t : State, EachSourceOnce s → step s = .next t → EachSourceOnce t)
  ∧ ∀ s : State, EachSourceOnce s → s.urgent.length + s.routine.length ≤ 193

/-- R99: after every step the transmitter is idle only when nothing is waiting. -/
def Obligations.IdleMeansNothingWaits : Prop :=
  ∀ s t : State, SourcesDefined s ∧ IdleMeansQuiet s → step s = .next t → SourcesDefined t ∧ IdleMeansQuiet t

/-- R113, R114, R131, R141: after every step outputs are energised in RUNNING alone, partnerships in RUNNING are mutual, and
two exclusion partners are never both energised; a proof in flight belongs to a defined output in RUNNING, and its
deadline is present exactly while it is WATCHING. -/
def Obligations.OutputsAndProofsStayFit : Prop :=
  (∀ s t : State, EnergisedOnlyRunning s ∧ PartnersFit s ∧ NeverBothEnergised s → step s = .next t →
      EnergisedOnlyRunning t ∧ PartnersFit t ∧ NeverBothEnergised t)
  ∧ (∀ s t : State, ProofsFit s → step s = .next t → ProofsFit t)

/-- The counts of points, objects, outputs, health records, the link and the scheduler, the reference count of a
measurement and the recorded transit times (section 3.1) stay within the bounds the spec gives them (R3, R7, R22,
R29, R59, R64, R65, R69, R82, R100, R126, R127, R146, R150, R159, R160). -/
def Obligations.CountsStayInRange : Prop :=
  ∀ s t : State, CountsInRange s → step s = .next t → CountsInRange t

/-- R38: after every step the evaluated indication of every LIVE PAIR object that has left UNPROVEN agrees with the
filtered levels of its two points and with its origin, transit and conflict fields. -/
def Obligations.PairsStayInAgreement : Prop :=
  ∀ s t : State, PairsAgree s → step s = .next t → PairsAgree t
end

