-- ==== Sys2Proof/Laws/State.lean ====
section
/-! SUPPORT. One lemma for each field under each named update of the state: the field the update replaces, and every
field it leaves. All hold by definition. -/

namespace Sys2Proof.Laws

open Sys2Proof.Machine

variable (s : State)

/-! ## State.setPoint -/

@[simp] theorem setPoint_pending (p : PointId) (x : Point) : (s.setPoint p x).pending = s.pending := rfl
@[simp] theorem setPoint_free (p : PointId) (x : Point) : (s.setPoint p x).free = s.free := rfl
@[simp] theorem setPoint_inReset (p : PointId) (x : Point) : (s.setPoint p x).inReset = s.inReset := rfl
@[simp] theorem setPoint_clock (p : PointId) (x : Point) : (s.setPoint p x).clock = s.clock := rfl
@[simp] theorem setPoint_baud (p : PointId) (x : Point) : (s.setPoint p x).baud = s.baud := rfl
@[simp] theorem setPoint_partState (p : PointId) (x : Point) : (s.setPoint p x).partState = s.partState := rfl
@[simp] theorem setPoint_imageStatus (p : PointId) (x : Point) : (s.setPoint p x).imageStatus = s.imageStatus := rfl
@[simp] theorem setPoint_store (p : PointId) (x : Point) : (s.setPoint p x).store = s.store := rfl
@[simp] theorem setPoint_memory (p : PointId) (x : Point) : (s.setPoint p x).memory = s.memory := rfl
@[simp] theorem setPoint_goodFrame (p : PointId) (x : Point) : (s.setPoint p x).goodFrame = s.goodFrame := rfl
@[simp] theorem setPoint_flashLit (p : PointId) (x : Point) : (s.setPoint p x).flashLit = s.flashLit := rfl
@[simp] theorem setPoint_flashStart (p : PointId) (x : Point) : (s.setPoint p x).flashStart = s.flashStart := rfl
@[simp] theorem setPoint_points (p : PointId) (x : Point) : (s.setPoint p x).points = upd s.points p x := rfl
@[simp] theorem setPoint_groups (p : PointId) (x : Point) : (s.setPoint p x).groups = s.groups := rfl
@[simp] theorem setPoint_timing (p : PointId) (x : Point) : (s.setPoint p x).timing = s.timing := rfl
@[simp] theorem setPoint_reporting (p : PointId) (x : Point) : (s.setPoint p x).reporting = s.reporting := rfl
@[simp] theorem setPoint_surveySet (p : PointId) (x : Point) : (s.setPoint p x).surveySet = s.surveySet := rfl
@[simp] theorem setPoint_bands (p : PointId) (x : Point) : (s.setPoint p x).bands = s.bands := rfl
@[simp] theorem setPoint_objects (p : PointId) (x : Point) : (s.setPoint p x).objects = s.objects := rfl
@[simp] theorem setPoint_window (p : PointId) (x : Point) : (s.setPoint p x).window = s.window := rfl
@[simp] theorem setPoint_urgent (p : PointId) (x : Point) : (s.setPoint p x).urgent = s.urgent := rfl
@[simp] theorem setPoint_routine (p : PointId) (x : Point) : (s.setPoint p x).routine = s.routine := rfl
@[simp] theorem setPoint_urgentRun (p : PointId) (x : Point) : (s.setPoint p x).urgentRun = s.urgentRun := rfl
@[simp] theorem setPoint_snapshot (p : PointId) (x : Point) : (s.setPoint p x).snapshot = s.snapshot := rfl
@[simp] theorem setPoint_part (p : PointId) (x : Point) : (s.setPoint p x).part = s.part := rfl
@[simp] theorem setPoint_deskSilent (p : PointId) (x : Point) : (s.setPoint p x).deskSilent = s.deskSilent := rfl
@[simp] theorem setPoint_outputs (p : PointId) (x : Point) : (s.setPoint p x).outputs = s.outputs := rfl
@[simp] theorem setPoint_readback (p : PointId) (x : Point) : (s.setPoint p x).readback = s.readback := rfl
@[simp] theorem setPoint_silenceDeadline (p : PointId) (x : Point) :
    (s.setPoint p x).silenceDeadline = s.silenceDeadline := rfl
@[simp] theorem setPoint_proofs (p : PointId) (x : Point) : (s.setPoint p x).proofs = s.proofs := rfl
@[simp] theorem setPoint_nextAttempt (p : PointId) (x : Point) : (s.setPoint p x).nextAttempt = s.nextAttempt := rfl
@[simp] theorem setPoint_surveyCursor (p : PointId) (x : Point) : (s.setPoint p x).surveyCursor = s.surveyCursor := rfl
@[simp] theorem setPoint_measure (p : PointId) (x : Point) : (s.setPoint p x).measure = s.measure := rfl
@[simp] theorem setPoint_health (p : PointId) (x : Point) : (s.setPoint p x).health = s.health := rfl
@[simp] theorem setPoint_rx (p : PointId) (x : Point) : (s.setPoint p x).rx = s.rx := rfl
@[simp] theorem setPoint_errors (p : PointId) (x : Point) : (s.setPoint p x).errors = s.errors := rfl
@[simp] theorem setPoint_answers (p : PointId) (x : Point) : (s.setPoint p x).answers = s.answers := rfl
@[simp] theorem setPoint_tx (p : PointId) (x : Point) : (s.setPoint p x).tx = s.tx := rfl

/-! ## State.setGroup -/

@[simp] theorem setGroup_pending (g : GroupId) (x : Group) : (s.setGroup g x).pending = s.pending := rfl
@[simp] theorem setGroup_free (g : GroupId) (x : Group) : (s.setGroup g x).free = s.free := rfl
@[simp] theorem setGroup_inReset (g : GroupId) (x : Group) : (s.setGroup g x).inReset = s.inReset := rfl
@[simp] theorem setGroup_clock (g : GroupId) (x : Group) : (s.setGroup g x).clock = s.clock := rfl
@[simp] theorem setGroup_baud (g : GroupId) (x : Group) : (s.setGroup g x).baud = s.baud := rfl
@[simp] theorem setGroup_partState (g : GroupId) (x : Group) : (s.setGroup g x).partState = s.partState := rfl
@[simp] theorem setGroup_imageStatus (g : GroupId) (x : Group) : (s.setGroup g x).imageStatus = s.imageStatus := rfl
@[simp] theorem setGroup_store (g : GroupId) (x : Group) : (s.setGroup g x).store = s.store := rfl
@[simp] theorem setGroup_memory (g : GroupId) (x : Group) : (s.setGroup g x).memory = s.memory := rfl
@[simp] theorem setGroup_goodFrame (g : GroupId) (x : Group) : (s.setGroup g x).goodFrame = s.goodFrame := rfl
@[simp] theorem setGroup_flashLit (g : GroupId) (x : Group) : (s.setGroup g x).flashLit = s.flashLit := rfl
@[simp] theorem setGroup_flashStart (g : GroupId) (x : Group) : (s.setGroup g x).flashStart = s.flashStart := rfl
@[simp] theorem setGroup_points (g : GroupId) (x : Group) : (s.setGroup g x).points = s.points := rfl
@[simp] theorem setGroup_groups (g : GroupId) (x : Group) : (s.setGroup g x).groups = upd s.groups g x := rfl
@[simp] theorem setGroup_timing (g : GroupId) (x : Group) : (s.setGroup g x).timing = s.timing := rfl
@[simp] theorem setGroup_reporting (g : GroupId) (x : Group) : (s.setGroup g x).reporting = s.reporting := rfl
@[simp] theorem setGroup_surveySet (g : GroupId) (x : Group) : (s.setGroup g x).surveySet = s.surveySet := rfl
@[simp] theorem setGroup_bands (g : GroupId) (x : Group) : (s.setGroup g x).bands = s.bands := rfl
@[simp] theorem setGroup_objects (g : GroupId) (x : Group) : (s.setGroup g x).objects = s.objects := rfl
@[simp] theorem setGroup_window (g : GroupId) (x : Group) : (s.setGroup g x).window = s.window := rfl
@[simp] theorem setGroup_urgent (g : GroupId) (x : Group) : (s.setGroup g x).urgent = s.urgent := rfl
@[simp] theorem setGroup_routine (g : GroupId) (x : Group) : (s.setGroup g x).routine = s.routine := rfl
@[simp] theorem setGroup_urgentRun (g : GroupId) (x : Group) : (s.setGroup g x).urgentRun = s.urgentRun := rfl
@[simp] theorem setGroup_snapshot (g : GroupId) (x : Group) : (s.setGroup g x).snapshot = s.snapshot := rfl
@[simp] theorem setGroup_part (g : GroupId) (x : Group) : (s.setGroup g x).part = s.part := rfl
@[simp] theorem setGroup_deskSilent (g : GroupId) (x : Group) : (s.setGroup g x).deskSilent = s.deskSilent := rfl
@[simp] theorem setGroup_outputs (g : GroupId) (x : Group) : (s.setGroup g x).outputs = s.outputs := rfl
@[simp] theorem setGroup_readback (g : GroupId) (x : Group) : (s.setGroup g x).readback = s.readback := rfl
@[simp] theorem setGroup_silenceDeadline (g : GroupId) (x : Group) :
    (s.setGroup g x).silenceDeadline = s.silenceDeadline := rfl
@[simp] theorem setGroup_proofs (g : GroupId) (x : Group) : (s.setGroup g x).proofs = s.proofs := rfl
@[simp] theorem setGroup_nextAttempt (g : GroupId) (x : Group) : (s.setGroup g x).nextAttempt = s.nextAttempt := rfl
@[simp] theorem setGroup_surveyCursor (g : GroupId) (x : Group) : (s.setGroup g x).surveyCursor = s.surveyCursor := rfl
@[simp] theorem setGroup_measure (g : GroupId) (x : Group) : (s.setGroup g x).measure = s.measure := rfl
@[simp] theorem setGroup_health (g : GroupId) (x : Group) : (s.setGroup g x).health = s.health := rfl
@[simp] theorem setGroup_rx (g : GroupId) (x : Group) : (s.setGroup g x).rx = s.rx := rfl
@[simp] theorem setGroup_errors (g : GroupId) (x : Group) : (s.setGroup g x).errors = s.errors := rfl
@[simp] theorem setGroup_answers (g : GroupId) (x : Group) : (s.setGroup g x).answers = s.answers := rfl
@[simp] theorem setGroup_tx (g : GroupId) (x : Group) : (s.setGroup g x).tx = s.tx := rfl

/-! ## State.setObject -/

@[simp] theorem setObject_pending (n : ObjId) (x : Obj) : (s.setObject n x).pending = s.pending := rfl
@[simp] theorem setObject_free (n : ObjId) (x : Obj) : (s.setObject n x).free = s.free := rfl
@[simp] theorem setObject_inReset (n : ObjId) (x : Obj) : (s.setObject n x).inReset = s.inReset := rfl
@[simp] theorem setObject_clock (n : ObjId) (x : Obj) : (s.setObject n x).clock = s.clock := rfl
@[simp] theorem setObject_baud (n : ObjId) (x : Obj) : (s.setObject n x).baud = s.baud := rfl
@[simp] theorem setObject_partState (n : ObjId) (x : Obj) : (s.setObject n x).partState = s.partState := rfl
@[simp] theorem setObject_imageStatus (n : ObjId) (x : Obj) : (s.setObject n x).imageStatus = s.imageStatus := rfl
@[simp] theorem setObject_store (n : ObjId) (x : Obj) : (s.setObject n x).store = s.store := rfl
@[simp] theorem setObject_memory (n : ObjId) (x : Obj) : (s.setObject n x).memory = s.memory := rfl
@[simp] theorem setObject_goodFrame (n : ObjId) (x : Obj) : (s.setObject n x).goodFrame = s.goodFrame := rfl
@[simp] theorem setObject_flashLit (n : ObjId) (x : Obj) : (s.setObject n x).flashLit = s.flashLit := rfl
@[simp] theorem setObject_flashStart (n : ObjId) (x : Obj) : (s.setObject n x).flashStart = s.flashStart := rfl
@[simp] theorem setObject_points (n : ObjId) (x : Obj) : (s.setObject n x).points = s.points := rfl
@[simp] theorem setObject_groups (n : ObjId) (x : Obj) : (s.setObject n x).groups = s.groups := rfl
@[simp] theorem setObject_timing (n : ObjId) (x : Obj) : (s.setObject n x).timing = s.timing := rfl
@[simp] theorem setObject_reporting (n : ObjId) (x : Obj) : (s.setObject n x).reporting = s.reporting := rfl
@[simp] theorem setObject_surveySet (n : ObjId) (x : Obj) : (s.setObject n x).surveySet = s.surveySet := rfl
@[simp] theorem setObject_bands (n : ObjId) (x : Obj) : (s.setObject n x).bands = s.bands := rfl
@[simp] theorem setObject_objects (n : ObjId) (x : Obj) : (s.setObject n x).objects = upd s.objects n (some x) := rfl
@[simp] theorem setObject_window (n : ObjId) (x : Obj) : (s.setObject n x).window = s.window := rfl
@[simp] theorem setObject_urgent (n : ObjId) (x : Obj) : (s.setObject n x).urgent = s.urgent := rfl
@[simp] theorem setObject_routine (n : ObjId) (x : Obj) : (s.setObject n x).routine = s.routine := rfl
@[simp] theorem setObject_urgentRun (n : ObjId) (x : Obj) : (s.setObject n x).urgentRun = s.urgentRun := rfl
@[simp] theorem setObject_snapshot (n : ObjId) (x : Obj) : (s.setObject n x).snapshot = s.snapshot := rfl
@[simp] theorem setObject_part (n : ObjId) (x : Obj) : (s.setObject n x).part = s.part := rfl
@[simp] theorem setObject_deskSilent (n : ObjId) (x : Obj) : (s.setObject n x).deskSilent = s.deskSilent := rfl
@[simp] theorem setObject_outputs (n : ObjId) (x : Obj) : (s.setObject n x).outputs = s.outputs := rfl
@[simp] theorem setObject_readback (n : ObjId) (x : Obj) : (s.setObject n x).readback = s.readback := rfl
@[simp] theorem setObject_silenceDeadline (n : ObjId) (x : Obj) :
    (s.setObject n x).silenceDeadline = s.silenceDeadline := rfl
@[simp] theorem setObject_proofs (n : ObjId) (x : Obj) : (s.setObject n x).proofs = s.proofs := rfl
@[simp] theorem setObject_nextAttempt (n : ObjId) (x : Obj) : (s.setObject n x).nextAttempt = s.nextAttempt := rfl
@[simp] theorem setObject_surveyCursor (n : ObjId) (x : Obj) : (s.setObject n x).surveyCursor = s.surveyCursor := rfl
@[simp] theorem setObject_measure (n : ObjId) (x : Obj) : (s.setObject n x).measure = s.measure := rfl
@[simp] theorem setObject_health (n : ObjId) (x : Obj) : (s.setObject n x).health = s.health := rfl
@[simp] theorem setObject_rx (n : ObjId) (x : Obj) : (s.setObject n x).rx = s.rx := rfl
@[simp] theorem setObject_errors (n : ObjId) (x : Obj) : (s.setObject n x).errors = s.errors := rfl
@[simp] theorem setObject_answers (n : ObjId) (x : Obj) : (s.setObject n x).answers = s.answers := rfl
@[simp] theorem setObject_tx (n : ObjId) (x : Obj) : (s.setObject n x).tx = s.tx := rfl

/-! ## State.setOutput -/

@[simp] theorem setOutput_pending (i : OutId) (x : Output) : (s.setOutput i x).pending = s.pending := rfl
@[simp] theorem setOutput_free (i : OutId) (x : Output) : (s.setOutput i x).free = s.free := rfl
@[simp] theorem setOutput_inReset (i : OutId) (x : Output) : (s.setOutput i x).inReset = s.inReset := rfl
@[simp] theorem setOutput_clock (i : OutId) (x : Output) : (s.setOutput i x).clock = s.clock := rfl
@[simp] theorem setOutput_baud (i : OutId) (x : Output) : (s.setOutput i x).baud = s.baud := rfl
@[simp] theorem setOutput_partState (i : OutId) (x : Output) : (s.setOutput i x).partState = s.partState := rfl
@[simp] theorem setOutput_imageStatus (i : OutId) (x : Output) : (s.setOutput i x).imageStatus = s.imageStatus := rfl
@[simp] theorem setOutput_store (i : OutId) (x : Output) : (s.setOutput i x).store = s.store := rfl
@[simp] theorem setOutput_memory (i : OutId) (x : Output) : (s.setOutput i x).memory = s.memory := rfl
@[simp] theorem setOutput_goodFrame (i : OutId) (x : Output) : (s.setOutput i x).goodFrame = s.goodFrame := rfl
@[simp] theorem setOutput_flashLit (i : OutId) (x : Output) : (s.setOutput i x).flashLit = s.flashLit := rfl
@[simp] theorem setOutput_flashStart (i : OutId) (x : Output) : (s.setOutput i x).flashStart = s.flashStart := rfl
@[simp] theorem setOutput_points (i : OutId) (x : Output) : (s.setOutput i x).points = s.points := rfl
@[simp] theorem setOutput_groups (i : OutId) (x : Output) : (s.setOutput i x).groups = s.groups := rfl
@[simp] theorem setOutput_timing (i : OutId) (x : Output) : (s.setOutput i x).timing = s.timing := rfl
@[simp] theorem setOutput_reporting (i : OutId) (x : Output) : (s.setOutput i x).reporting = s.reporting := rfl
@[simp] theorem setOutput_surveySet (i : OutId) (x : Output) : (s.setOutput i x).surveySet = s.surveySet := rfl
@[simp] theorem setOutput_bands (i : OutId) (x : Output) : (s.setOutput i x).bands = s.bands := rfl
@[simp] theorem setOutput_objects (i : OutId) (x : Output) : (s.setOutput i x).objects = s.objects := rfl
@[simp] theorem setOutput_window (i : OutId) (x : Output) : (s.setOutput i x).window = s.window := rfl
@[simp] theorem setOutput_urgent (i : OutId) (x : Output) : (s.setOutput i x).urgent = s.urgent := rfl
@[simp] theorem setOutput_routine (i : OutId) (x : Output) : (s.setOutput i x).routine = s.routine := rfl
@[simp] theorem setOutput_urgentRun (i : OutId) (x : Output) : (s.setOutput i x).urgentRun = s.urgentRun := rfl
@[simp] theorem setOutput_snapshot (i : OutId) (x : Output) : (s.setOutput i x).snapshot = s.snapshot := rfl
@[simp] theorem setOutput_part (i : OutId) (x : Output) : (s.setOutput i x).part = s.part := rfl
@[simp] theorem setOutput_deskSilent (i : OutId) (x : Output) : (s.setOutput i x).deskSilent = s.deskSilent := rfl
@[simp] theorem setOutput_outputs (i : OutId) (x : Output) : (s.setOutput i x).outputs = upd s.outputs i (some x) := rfl
@[simp] theorem setOutput_readback (i : OutId) (x : Output) : (s.setOutput i x).readback = s.readback := rfl
@[simp] theorem setOutput_silenceDeadline (i : OutId) (x : Output) :
    (s.setOutput i x).silenceDeadline = s.silenceDeadline := rfl
@[simp] theorem setOutput_proofs (i : OutId) (x : Output) : (s.setOutput i x).proofs = s.proofs := rfl
@[simp] theorem setOutput_nextAttempt (i : OutId) (x : Output) : (s.setOutput i x).nextAttempt = s.nextAttempt := rfl
@[simp] theorem setOutput_surveyCursor (i : OutId) (x : Output) : (s.setOutput i x).surveyCursor = s.surveyCursor := rfl
@[simp] theorem setOutput_measure (i : OutId) (x : Output) : (s.setOutput i x).measure = s.measure := rfl
@[simp] theorem setOutput_health (i : OutId) (x : Output) : (s.setOutput i x).health = s.health := rfl
@[simp] theorem setOutput_rx (i : OutId) (x : Output) : (s.setOutput i x).rx = s.rx := rfl
@[simp] theorem setOutput_errors (i : OutId) (x : Output) : (s.setOutput i x).errors = s.errors := rfl
@[simp] theorem setOutput_answers (i : OutId) (x : Output) : (s.setOutput i x).answers = s.answers := rfl
@[simp] theorem setOutput_tx (i : OutId) (x : Output) : (s.setOutput i x).tx = s.tx := rfl

/-! ## State.setProof -/

@[simp] theorem setProof_pending (i : OutId) (x : Proof) : (s.setProof i x).pending = s.pending := rfl
@[simp] theorem setProof_free (i : OutId) (x : Proof) : (s.setProof i x).free = s.free := rfl
@[simp] theorem setProof_inReset (i : OutId) (x : Proof) : (s.setProof i x).inReset = s.inReset := rfl
@[simp] theorem setProof_clock (i : OutId) (x : Proof) : (s.setProof i x).clock = s.clock := rfl
@[simp] theorem setProof_baud (i : OutId) (x : Proof) : (s.setProof i x).baud = s.baud := rfl
@[simp] theorem setProof_partState (i : OutId) (x : Proof) : (s.setProof i x).partState = s.partState := rfl
@[simp] theorem setProof_imageStatus (i : OutId) (x : Proof) : (s.setProof i x).imageStatus = s.imageStatus := rfl
@[simp] theorem setProof_store (i : OutId) (x : Proof) : (s.setProof i x).store = s.store := rfl
@[simp] theorem setProof_memory (i : OutId) (x : Proof) : (s.setProof i x).memory = s.memory := rfl
@[simp] theorem setProof_goodFrame (i : OutId) (x : Proof) : (s.setProof i x).goodFrame = s.goodFrame := rfl
@[simp] theorem setProof_flashLit (i : OutId) (x : Proof) : (s.setProof i x).flashLit = s.flashLit := rfl
@[simp] theorem setProof_flashStart (i : OutId) (x : Proof) : (s.setProof i x).flashStart = s.flashStart := rfl
@[simp] theorem setProof_points (i : OutId) (x : Proof) : (s.setProof i x).points = s.points := rfl
@[simp] theorem setProof_groups (i : OutId) (x : Proof) : (s.setProof i x).groups = s.groups := rfl
@[simp] theorem setProof_timing (i : OutId) (x : Proof) : (s.setProof i x).timing = s.timing := rfl
@[simp] theorem setProof_reporting (i : OutId) (x : Proof) : (s.setProof i x).reporting = s.reporting := rfl
@[simp] theorem setProof_surveySet (i : OutId) (x : Proof) : (s.setProof i x).surveySet = s.surveySet := rfl
@[simp] theorem setProof_bands (i : OutId) (x : Proof) : (s.setProof i x).bands = s.bands := rfl
@[simp] theorem setProof_objects (i : OutId) (x : Proof) : (s.setProof i x).objects = s.objects := rfl
@[simp] theorem setProof_window (i : OutId) (x : Proof) : (s.setProof i x).window = s.window := rfl
@[simp] theorem setProof_urgent (i : OutId) (x : Proof) : (s.setProof i x).urgent = s.urgent := rfl
@[simp] theorem setProof_routine (i : OutId) (x : Proof) : (s.setProof i x).routine = s.routine := rfl
@[simp] theorem setProof_urgentRun (i : OutId) (x : Proof) : (s.setProof i x).urgentRun = s.urgentRun := rfl
@[simp] theorem setProof_snapshot (i : OutId) (x : Proof) : (s.setProof i x).snapshot = s.snapshot := rfl
@[simp] theorem setProof_part (i : OutId) (x : Proof) : (s.setProof i x).part = s.part := rfl
@[simp] theorem setProof_deskSilent (i : OutId) (x : Proof) : (s.setProof i x).deskSilent = s.deskSilent := rfl
@[simp] theorem setProof_outputs (i : OutId) (x : Proof) : (s.setProof i x).outputs = s.outputs := rfl
@[simp] theorem setProof_readback (i : OutId) (x : Proof) : (s.setProof i x).readback = s.readback := rfl
@[simp] theorem setProof_silenceDeadline (i : OutId) (x : Proof) :
    (s.setProof i x).silenceDeadline = s.silenceDeadline := rfl
@[simp] theorem setProof_proofs (i : OutId) (x : Proof) : (s.setProof i x).proofs = upd s.proofs i x := rfl
@[simp] theorem setProof_nextAttempt (i : OutId) (x : Proof) : (s.setProof i x).nextAttempt = s.nextAttempt := rfl
@[simp] theorem setProof_surveyCursor (i : OutId) (x : Proof) : (s.setProof i x).surveyCursor = s.surveyCursor := rfl
@[simp] theorem setProof_measure (i : OutId) (x : Proof) : (s.setProof i x).measure = s.measure := rfl
@[simp] theorem setProof_health (i : OutId) (x : Proof) : (s.setProof i x).health = s.health := rfl
@[simp] theorem setProof_rx (i : OutId) (x : Proof) : (s.setProof i x).rx = s.rx := rfl
@[simp] theorem setProof_errors (i : OutId) (x : Proof) : (s.setProof i x).errors = s.errors := rfl
@[simp] theorem setProof_answers (i : OutId) (x : Proof) : (s.setProof i x).answers = s.answers := rfl
@[simp] theorem setProof_tx (i : OutId) (x : Proof) : (s.setProof i x).tx = s.tx := rfl

/-! ## State.setHealth -/

@[simp] theorem setHealth_pending (p : PointId) (x : Health) : (s.setHealth p x).pending = s.pending := rfl
@[simp] theorem setHealth_free (p : PointId) (x : Health) : (s.setHealth p x).free = s.free := rfl
@[simp] theorem setHealth_inReset (p : PointId) (x : Health) : (s.setHealth p x).inReset = s.inReset := rfl
@[simp] theorem setHealth_clock (p : PointId) (x : Health) : (s.setHealth p x).clock = s.clock := rfl
@[simp] theorem setHealth_baud (p : PointId) (x : Health) : (s.setHealth p x).baud = s.baud := rfl
@[simp] theorem setHealth_partState (p : PointId) (x : Health) : (s.setHealth p x).partState = s.partState := rfl
@[simp] theorem setHealth_imageStatus (p : PointId) (x : Health) : (s.setHealth p x).imageStatus = s.imageStatus := rfl
@[simp] theorem setHealth_store (p : PointId) (x : Health) : (s.setHealth p x).store = s.store := rfl
@[simp] theorem setHealth_memory (p : PointId) (x : Health) : (s.setHealth p x).memory = s.memory := rfl
@[simp] theorem setHealth_goodFrame (p : PointId) (x : Health) : (s.setHealth p x).goodFrame = s.goodFrame := rfl
@[simp] theorem setHealth_flashLit (p : PointId) (x : Health) : (s.setHealth p x).flashLit = s.flashLit := rfl
@[simp] theorem setHealth_flashStart (p : PointId) (x : Health) : (s.setHealth p x).flashStart = s.flashStart := rfl
@[simp] theorem setHealth_points (p : PointId) (x : Health) : (s.setHealth p x).points = s.points := rfl
@[simp] theorem setHealth_groups (p : PointId) (x : Health) : (s.setHealth p x).groups = s.groups := rfl
@[simp] theorem setHealth_timing (p : PointId) (x : Health) : (s.setHealth p x).timing = s.timing := rfl
@[simp] theorem setHealth_reporting (p : PointId) (x : Health) : (s.setHealth p x).reporting = s.reporting := rfl
@[simp] theorem setHealth_surveySet (p : PointId) (x : Health) : (s.setHealth p x).surveySet = s.surveySet := rfl
@[simp] theorem setHealth_bands (p : PointId) (x : Health) : (s.setHealth p x).bands = s.bands := rfl
@[simp] theorem setHealth_objects (p : PointId) (x : Health) : (s.setHealth p x).objects = s.objects := rfl
@[simp] theorem setHealth_window (p : PointId) (x : Health) : (s.setHealth p x).window = s.window := rfl
@[simp] theorem setHealth_urgent (p : PointId) (x : Health) : (s.setHealth p x).urgent = s.urgent := rfl
@[simp] theorem setHealth_routine (p : PointId) (x : Health) : (s.setHealth p x).routine = s.routine := rfl
@[simp] theorem setHealth_urgentRun (p : PointId) (x : Health) : (s.setHealth p x).urgentRun = s.urgentRun := rfl
@[simp] theorem setHealth_snapshot (p : PointId) (x : Health) : (s.setHealth p x).snapshot = s.snapshot := rfl
@[simp] theorem setHealth_part (p : PointId) (x : Health) : (s.setHealth p x).part = s.part := rfl
@[simp] theorem setHealth_deskSilent (p : PointId) (x : Health) : (s.setHealth p x).deskSilent = s.deskSilent := rfl
@[simp] theorem setHealth_outputs (p : PointId) (x : Health) : (s.setHealth p x).outputs = s.outputs := rfl
@[simp] theorem setHealth_readback (p : PointId) (x : Health) : (s.setHealth p x).readback = s.readback := rfl
@[simp] theorem setHealth_silenceDeadline (p : PointId) (x : Health) :
    (s.setHealth p x).silenceDeadline = s.silenceDeadline := rfl
@[simp] theorem setHealth_proofs (p : PointId) (x : Health) : (s.setHealth p x).proofs = s.proofs := rfl
@[simp] theorem setHealth_nextAttempt (p : PointId) (x : Health) : (s.setHealth p x).nextAttempt = s.nextAttempt := rfl
@[simp] theorem setHealth_surveyCursor (p : PointId) (x : Health) :
    (s.setHealth p x).surveyCursor = s.surveyCursor := rfl
@[simp] theorem setHealth_measure (p : PointId) (x : Health) : (s.setHealth p x).measure = s.measure := rfl
@[simp] theorem setHealth_health (p : PointId) (x : Health) : (s.setHealth p x).health = upd s.health p x := rfl
@[simp] theorem setHealth_rx (p : PointId) (x : Health) : (s.setHealth p x).rx = s.rx := rfl
@[simp] theorem setHealth_errors (p : PointId) (x : Health) : (s.setHealth p x).errors = s.errors := rfl
@[simp] theorem setHealth_answers (p : PointId) (x : Health) : (s.setHealth p x).answers = s.answers := rfl
@[simp] theorem setHealth_tx (p : PointId) (x : Health) : (s.setHealth p x).tx = s.tx := rfl

/-! ## hunt -/

@[simp] theorem hunt_pending : (hunt s).pending = s.pending := rfl
@[simp] theorem hunt_free : (hunt s).free = s.free := rfl
@[simp] theorem hunt_inReset : (hunt s).inReset = s.inReset := rfl
@[simp] theorem hunt_clock : (hunt s).clock = s.clock := rfl
@[simp] theorem hunt_baud : (hunt s).baud = s.baud := rfl
@[simp] theorem hunt_partState : (hunt s).partState = s.partState := rfl
@[simp] theorem hunt_imageStatus : (hunt s).imageStatus = s.imageStatus := rfl
@[simp] theorem hunt_store : (hunt s).store = s.store := rfl
@[simp] theorem hunt_memory : (hunt s).memory = s.memory := rfl
@[simp] theorem hunt_goodFrame : (hunt s).goodFrame = s.goodFrame := rfl
@[simp] theorem hunt_flashLit : (hunt s).flashLit = s.flashLit := rfl
@[simp] theorem hunt_flashStart : (hunt s).flashStart = s.flashStart := rfl
@[simp] theorem hunt_points : (hunt s).points = s.points := rfl
@[simp] theorem hunt_groups : (hunt s).groups = s.groups := rfl
@[simp] theorem hunt_timing : (hunt s).timing = s.timing := rfl
@[simp] theorem hunt_reporting : (hunt s).reporting = s.reporting := rfl
@[simp] theorem hunt_surveySet : (hunt s).surveySet = s.surveySet := rfl
@[simp] theorem hunt_bands : (hunt s).bands = s.bands := rfl
@[simp] theorem hunt_objects : (hunt s).objects = s.objects := rfl
@[simp] theorem hunt_window : (hunt s).window = s.window := rfl
@[simp] theorem hunt_urgent : (hunt s).urgent = s.urgent := rfl
@[simp] theorem hunt_routine : (hunt s).routine = s.routine := rfl
@[simp] theorem hunt_urgentRun : (hunt s).urgentRun = s.urgentRun := rfl
@[simp] theorem hunt_snapshot : (hunt s).snapshot = s.snapshot := rfl
@[simp] theorem hunt_part : (hunt s).part = s.part := rfl
@[simp] theorem hunt_deskSilent : (hunt s).deskSilent = s.deskSilent := rfl
@[simp] theorem hunt_outputs : (hunt s).outputs = s.outputs := rfl
@[simp] theorem hunt_readback : (hunt s).readback = s.readback := rfl
@[simp] theorem hunt_silenceDeadline : (hunt s).silenceDeadline = s.silenceDeadline := rfl
@[simp] theorem hunt_proofs : (hunt s).proofs = s.proofs := rfl
@[simp] theorem hunt_nextAttempt : (hunt s).nextAttempt = s.nextAttempt := rfl
@[simp] theorem hunt_surveyCursor : (hunt s).surveyCursor = s.surveyCursor := rfl
@[simp] theorem hunt_measure : (hunt s).measure = s.measure := rfl
@[simp] theorem hunt_health : (hunt s).health = s.health := rfl
@[simp] theorem hunt_rx : (hunt s).rx = { s.rx with phase := .hunt, kept := [] } := rfl
@[simp] theorem hunt_errors : (hunt s).errors = s.errors := rfl
@[simp] theorem hunt_answers : (hunt s).answers = s.answers := rfl
@[simp] theorem hunt_tx : (hunt s).tx = s.tx := rfl

/-! ## removeEntry -/

@[simp] theorem removeEntry_pending (src : Source) : (removeEntry src s).pending = s.pending := rfl
@[simp] theorem removeEntry_free (src : Source) : (removeEntry src s).free = s.free := rfl
@[simp] theorem removeEntry_inReset (src : Source) : (removeEntry src s).inReset = s.inReset := rfl
@[simp] theorem removeEntry_clock (src : Source) : (removeEntry src s).clock = s.clock := rfl
@[simp] theorem removeEntry_baud (src : Source) : (removeEntry src s).baud = s.baud := rfl
@[simp] theorem removeEntry_partState (src : Source) : (removeEntry src s).partState = s.partState := rfl
@[simp] theorem removeEntry_imageStatus (src : Source) : (removeEntry src s).imageStatus = s.imageStatus := rfl
@[simp] theorem removeEntry_store (src : Source) : (removeEntry src s).store = s.store := rfl
@[simp] theorem removeEntry_memory (src : Source) : (removeEntry src s).memory = s.memory := rfl
@[simp] theorem removeEntry_goodFrame (src : Source) : (removeEntry src s).goodFrame = s.goodFrame := rfl
@[simp] theorem removeEntry_flashLit (src : Source) : (removeEntry src s).flashLit = s.flashLit := rfl
@[simp] theorem removeEntry_flashStart (src : Source) : (removeEntry src s).flashStart = s.flashStart := rfl
@[simp] theorem removeEntry_points (src : Source) : (removeEntry src s).points = s.points := rfl
@[simp] theorem removeEntry_groups (src : Source) : (removeEntry src s).groups = s.groups := rfl
@[simp] theorem removeEntry_timing (src : Source) : (removeEntry src s).timing = s.timing := rfl
@[simp] theorem removeEntry_reporting (src : Source) : (removeEntry src s).reporting = s.reporting := rfl
@[simp] theorem removeEntry_surveySet (src : Source) : (removeEntry src s).surveySet = s.surveySet := rfl
@[simp] theorem removeEntry_bands (src : Source) : (removeEntry src s).bands = s.bands := rfl
@[simp] theorem removeEntry_objects (src : Source) : (removeEntry src s).objects = s.objects := rfl
@[simp] theorem removeEntry_window (src : Source) : (removeEntry src s).window = s.window := rfl
@[simp] theorem removeEntry_urgent (src : Source) : (removeEntry src s).urgent = without s.urgent src := rfl
@[simp] theorem removeEntry_routine (src : Source) : (removeEntry src s).routine = without s.routine src := rfl
@[simp] theorem removeEntry_urgentRun (src : Source) : (removeEntry src s).urgentRun = s.urgentRun := rfl
@[simp] theorem removeEntry_snapshot (src : Source) : (removeEntry src s).snapshot = s.snapshot := rfl
@[simp] theorem removeEntry_part (src : Source) : (removeEntry src s).part = s.part := rfl
@[simp] theorem removeEntry_deskSilent (src : Source) : (removeEntry src s).deskSilent = s.deskSilent := rfl
@[simp] theorem removeEntry_outputs (src : Source) : (removeEntry src s).outputs = s.outputs := rfl
@[simp] theorem removeEntry_readback (src : Source) : (removeEntry src s).readback = s.readback := rfl
@[simp] theorem removeEntry_silenceDeadline (src : Source) :
    (removeEntry src s).silenceDeadline = s.silenceDeadline := rfl
@[simp] theorem removeEntry_proofs (src : Source) : (removeEntry src s).proofs = s.proofs := rfl
@[simp] theorem removeEntry_nextAttempt (src : Source) : (removeEntry src s).nextAttempt = s.nextAttempt := rfl
@[simp] theorem removeEntry_surveyCursor (src : Source) : (removeEntry src s).surveyCursor = s.surveyCursor := rfl
@[simp] theorem removeEntry_measure (src : Source) : (removeEntry src s).measure = s.measure := rfl
@[simp] theorem removeEntry_health (src : Source) : (removeEntry src s).health = s.health := rfl
@[simp] theorem removeEntry_rx (src : Source) : (removeEntry src s).rx = s.rx := rfl
@[simp] theorem removeEntry_errors (src : Source) : (removeEntry src s).errors = s.errors := rfl
@[simp] theorem removeEntry_answers (src : Source) : (removeEntry src s).answers = s.answers := rfl
@[simp] theorem removeEntry_tx (src : Source) : (removeEntry src s).tx = s.tx := rfl

/-! ## transmit -/

@[simp] theorem transmit_pending (f : Frame) (parts : List Frame) (r : Bool) :
    (transmit f parts r s).pending = s.pending := rfl
@[simp] theorem transmit_free (f : Frame) (parts : List Frame) (r : Bool) : (transmit f parts r s).free = s.free := rfl
@[simp] theorem transmit_inReset (f : Frame) (parts : List Frame) (r : Bool) :
    (transmit f parts r s).inReset = s.inReset := rfl
@[simp] theorem transmit_clock (f : Frame) (parts : List Frame) (r : Bool) :
    (transmit f parts r s).clock = s.clock := rfl
@[simp] theorem transmit_baud (f : Frame) (parts : List Frame) (r : Bool) : (transmit f parts r s).baud = s.baud := rfl
@[simp] theorem transmit_partState (f : Frame) (parts : List Frame) (r : Bool) :
    (transmit f parts r s).partState = s.partState := rfl
@[simp] theorem transmit_imageStatus (f : Frame) (parts : List Frame) (r : Bool) :
    (transmit f parts r s).imageStatus = s.imageStatus := rfl
@[simp] theorem transmit_store (f : Frame) (parts : List Frame) (r : Bool) :
    (transmit f parts r s).store = s.store := rfl
@[simp] theorem transmit_memory (f : Frame) (parts : List Frame) (r : Bool) :
    (transmit f parts r s).memory = s.memory := rfl
@[simp] theorem transmit_goodFrame (f : Frame) (parts : List Frame) (r : Bool) :
    (transmit f parts r s).goodFrame = s.goodFrame := rfl
@[simp] theorem transmit_flashLit (f : Frame) (parts : List Frame) (r : Bool) :
    (transmit f parts r s).flashLit = s.flashLit := rfl
@[simp] theorem transmit_flashStart (f : Frame) (parts : List Frame) (r : Bool) :
    (transmit f parts r s).flashStart = s.flashStart := rfl
@[simp] theorem transmit_points (f : Frame) (parts : List Frame) (r : Bool) :
    (transmit f parts r s).points = s.points := rfl
@[simp] theorem transmit_groups (f : Frame) (parts : List Frame) (r : Bool) :
    (transmit f parts r s).groups = s.groups := rfl
@[simp] theorem transmit_timing (f : Frame) (parts : List Frame) (r : Bool) :
    (transmit f parts r s).timing = s.timing := rfl
@[simp] theorem transmit_reporting (f : Frame) (parts : List Frame) (r : Bool) :
    (transmit f parts r s).reporting = s.reporting := rfl
@[simp] theorem transmit_surveySet (f : Frame) (parts : List Frame) (r : Bool) :
    (transmit f parts r s).surveySet = s.surveySet := rfl
@[simp] theorem transmit_bands (f : Frame) (parts : List Frame) (r : Bool) :
    (transmit f parts r s).bands = s.bands := rfl
@[simp] theorem transmit_objects (f : Frame) (parts : List Frame) (r : Bool) :
    (transmit f parts r s).objects = s.objects := rfl
@[simp] theorem transmit_window (f : Frame) (parts : List Frame) (r : Bool) :
    (transmit f parts r s).window = s.window := rfl
@[simp] theorem transmit_urgent (f : Frame) (parts : List Frame) (r : Bool) :
    (transmit f parts r s).urgent = s.urgent := rfl
@[simp] theorem transmit_routine (f : Frame) (parts : List Frame) (r : Bool) :
    (transmit f parts r s).routine = s.routine := rfl
@[simp] theorem transmit_urgentRun (f : Frame) (parts : List Frame) (r : Bool) :
    (transmit f parts r s).urgentRun = s.urgentRun := rfl
@[simp] theorem transmit_snapshot (f : Frame) (parts : List Frame) (r : Bool) :
    (transmit f parts r s).snapshot = s.snapshot := rfl
@[simp] theorem transmit_part (f : Frame) (parts : List Frame) (r : Bool) : (transmit f parts r s).part = s.part := rfl
@[simp] theorem transmit_deskSilent (f : Frame) (parts : List Frame) (r : Bool) :
    (transmit f parts r s).deskSilent = s.deskSilent := rfl
@[simp] theorem transmit_outputs (f : Frame) (parts : List Frame) (r : Bool) :
    (transmit f parts r s).outputs = s.outputs := rfl
@[simp] theorem transmit_readback (f : Frame) (parts : List Frame) (r : Bool) :
    (transmit f parts r s).readback = s.readback := rfl
@[simp] theorem transmit_silenceDeadline (f : Frame) (parts : List Frame) (r : Bool) :
    (transmit f parts r s).silenceDeadline = s.silenceDeadline := rfl
@[simp] theorem transmit_proofs (f : Frame) (parts : List Frame) (r : Bool) :
    (transmit f parts r s).proofs = s.proofs := rfl
@[simp] theorem transmit_nextAttempt (f : Frame) (parts : List Frame) (r : Bool) :
    (transmit f parts r s).nextAttempt = s.nextAttempt := rfl
@[simp] theorem transmit_surveyCursor (f : Frame) (parts : List Frame) (r : Bool) :
    (transmit f parts r s).surveyCursor = s.surveyCursor := rfl
@[simp] theorem transmit_measure (f : Frame) (parts : List Frame) (r : Bool) :
    (transmit f parts r s).measure = s.measure := rfl
@[simp] theorem transmit_health (f : Frame) (parts : List Frame) (r : Bool) :
    (transmit f parts r s).health = s.health := rfl
@[simp] theorem transmit_rx (f : Frame) (parts : List Frame) (r : Bool) : (transmit f parts r s).rx = s.rx := rfl
@[simp] theorem transmit_errors (f : Frame) (parts : List Frame) (r : Bool) :
    (transmit f parts r s).errors = s.errors := rfl
@[simp] theorem transmit_answers (f : Frame) (parts : List Frame) (r : Bool) :
    (transmit f parts r s).answers = s.answers := rfl
@[simp] theorem transmit_tx (f : Frame) (parts : List Frame) (r : Bool) :
    (transmit f parts r s).tx = some { frame := f, parts := parts, start := s.clock, isReset := r } := rfl

/-! ## overrun -/

@[simp] theorem overrun_pending : (overrun s).pending = s.pending := rfl
@[simp] theorem overrun_free : (overrun s).free = s.free := rfl
@[simp] theorem overrun_inReset : (overrun s).inReset = s.inReset := rfl
@[simp] theorem overrun_clock : (overrun s).clock = s.clock := rfl
@[simp] theorem overrun_baud : (overrun s).baud = s.baud := rfl
@[simp] theorem overrun_partState : (overrun s).partState = s.partState := rfl
@[simp] theorem overrun_imageStatus : (overrun s).imageStatus = s.imageStatus := rfl
@[simp] theorem overrun_store : (overrun s).store = s.store := rfl
@[simp] theorem overrun_memory : (overrun s).memory = s.memory := rfl
@[simp] theorem overrun_goodFrame : (overrun s).goodFrame = s.goodFrame := rfl
@[simp] theorem overrun_flashLit : (overrun s).flashLit = s.flashLit := rfl
@[simp] theorem overrun_flashStart : (overrun s).flashStart = s.flashStart := rfl
@[simp] theorem overrun_points : (overrun s).points = s.points := rfl
@[simp] theorem overrun_groups : (overrun s).groups = s.groups := rfl
@[simp] theorem overrun_timing : (overrun s).timing = s.timing := rfl
@[simp] theorem overrun_reporting : (overrun s).reporting = s.reporting := rfl
@[simp] theorem overrun_surveySet : (overrun s).surveySet = s.surveySet := rfl
@[simp] theorem overrun_bands : (overrun s).bands = s.bands := rfl
@[simp] theorem overrun_objects : (overrun s).objects = s.objects := rfl
@[simp] theorem overrun_window : (overrun s).window = s.window := rfl
@[simp] theorem overrun_urgent : (overrun s).urgent = s.urgent := rfl
@[simp] theorem overrun_routine : (overrun s).routine = s.routine := rfl
@[simp] theorem overrun_urgentRun : (overrun s).urgentRun = s.urgentRun := rfl
@[simp] theorem overrun_snapshot : (overrun s).snapshot = s.snapshot := rfl
@[simp] theorem overrun_part : (overrun s).part = s.part := rfl
@[simp] theorem overrun_deskSilent : (overrun s).deskSilent = s.deskSilent := rfl
@[simp] theorem overrun_outputs : (overrun s).outputs = s.outputs := rfl
@[simp] theorem overrun_readback : (overrun s).readback = s.readback := rfl
@[simp] theorem overrun_silenceDeadline : (overrun s).silenceDeadline = s.silenceDeadline := rfl
@[simp] theorem overrun_proofs : (overrun s).proofs = s.proofs := rfl
@[simp] theorem overrun_nextAttempt : (overrun s).nextAttempt = s.nextAttempt := rfl
@[simp] theorem overrun_surveyCursor : (overrun s).surveyCursor = s.surveyCursor := rfl
@[simp] theorem overrun_measure : (overrun s).measure = s.measure := rfl
@[simp] theorem overrun_health : (overrun s).health = s.health := rfl
@[simp] theorem overrun_rx : (overrun s).rx = s.rx := rfl
@[simp] theorem overrun_errors :
    (overrun s).errors = { s.errors with overruns := satInc 65535 s.errors.overruns } := rfl
@[simp] theorem overrun_answers : (overrun s).answers = s.answers := rfl
@[simp] theorem overrun_tx : (overrun s).tx = s.tx := rfl

/-! ## countLength -/

@[simp] theorem countLength_pending : (countLength s).pending = s.pending := rfl
@[simp] theorem countLength_free : (countLength s).free = s.free := rfl
@[simp] theorem countLength_inReset : (countLength s).inReset = s.inReset := rfl
@[simp] theorem countLength_clock : (countLength s).clock = s.clock := rfl
@[simp] theorem countLength_baud : (countLength s).baud = s.baud := rfl
@[simp] theorem countLength_partState : (countLength s).partState = s.partState := rfl
@[simp] theorem countLength_imageStatus : (countLength s).imageStatus = s.imageStatus := rfl
@[simp] theorem countLength_store : (countLength s).store = s.store := rfl
@[simp] theorem countLength_memory : (countLength s).memory = s.memory := rfl
@[simp] theorem countLength_goodFrame : (countLength s).goodFrame = s.goodFrame := rfl
@[simp] theorem countLength_flashLit : (countLength s).flashLit = s.flashLit := rfl
@[simp] theorem countLength_flashStart : (countLength s).flashStart = s.flashStart := rfl
@[simp] theorem countLength_points : (countLength s).points = s.points := rfl
@[simp] theorem countLength_groups : (countLength s).groups = s.groups := rfl
@[simp] theorem countLength_timing : (countLength s).timing = s.timing := rfl
@[simp] theorem countLength_reporting : (countLength s).reporting = s.reporting := rfl
@[simp] theorem countLength_surveySet : (countLength s).surveySet = s.surveySet := rfl
@[simp] theorem countLength_bands : (countLength s).bands = s.bands := rfl
@[simp] theorem countLength_objects : (countLength s).objects = s.objects := rfl
@[simp] theorem countLength_window : (countLength s).window = s.window := rfl
@[simp] theorem countLength_urgent : (countLength s).urgent = s.urgent := rfl
@[simp] theorem countLength_routine : (countLength s).routine = s.routine := rfl
@[simp] theorem countLength_urgentRun : (countLength s).urgentRun = s.urgentRun := rfl
@[simp] theorem countLength_snapshot : (countLength s).snapshot = s.snapshot := rfl
@[simp] theorem countLength_part : (countLength s).part = s.part := rfl
@[simp] theorem countLength_deskSilent : (countLength s).deskSilent = s.deskSilent := rfl
@[simp] theorem countLength_outputs : (countLength s).outputs = s.outputs := rfl
@[simp] theorem countLength_readback : (countLength s).readback = s.readback := rfl
@[simp] theorem countLength_silenceDeadline : (countLength s).silenceDeadline = s.silenceDeadline := rfl
@[simp] theorem countLength_proofs : (countLength s).proofs = s.proofs := rfl
@[simp] theorem countLength_nextAttempt : (countLength s).nextAttempt = s.nextAttempt := rfl
@[simp] theorem countLength_surveyCursor : (countLength s).surveyCursor = s.surveyCursor := rfl
@[simp] theorem countLength_measure : (countLength s).measure = s.measure := rfl
@[simp] theorem countLength_health : (countLength s).health = s.health := rfl
@[simp] theorem countLength_rx : (countLength s).rx = s.rx := rfl
@[simp] theorem countLength_errors :
    (countLength s).errors = { s.errors with length := satInc 65535 s.errors.length } := rfl
@[simp] theorem countLength_answers : (countLength s).answers = s.answers := rfl
@[simp] theorem countLength_tx : (countLength s).tx = s.tx := rfl

/-! ## countCheck -/

@[simp] theorem countCheck_pending : (countCheck s).pending = s.pending := rfl
@[simp] theorem countCheck_free : (countCheck s).free = s.free := rfl
@[simp] theorem countCheck_inReset : (countCheck s).inReset = s.inReset := rfl
@[simp] theorem countCheck_clock : (countCheck s).clock = s.clock := rfl
@[simp] theorem countCheck_baud : (countCheck s).baud = s.baud := rfl
@[simp] theorem countCheck_partState : (countCheck s).partState = s.partState := rfl
@[simp] theorem countCheck_imageStatus : (countCheck s).imageStatus = s.imageStatus := rfl
@[simp] theorem countCheck_store : (countCheck s).store = s.store := rfl
@[simp] theorem countCheck_memory : (countCheck s).memory = s.memory := rfl
@[simp] theorem countCheck_goodFrame : (countCheck s).goodFrame = s.goodFrame := rfl
@[simp] theorem countCheck_flashLit : (countCheck s).flashLit = s.flashLit := rfl
@[simp] theorem countCheck_flashStart : (countCheck s).flashStart = s.flashStart := rfl
@[simp] theorem countCheck_points : (countCheck s).points = s.points := rfl
@[simp] theorem countCheck_groups : (countCheck s).groups = s.groups := rfl
@[simp] theorem countCheck_timing : (countCheck s).timing = s.timing := rfl
@[simp] theorem countCheck_reporting : (countCheck s).reporting = s.reporting := rfl
@[simp] theorem countCheck_surveySet : (countCheck s).surveySet = s.surveySet := rfl
@[simp] theorem countCheck_bands : (countCheck s).bands = s.bands := rfl
@[simp] theorem countCheck_objects : (countCheck s).objects = s.objects := rfl
@[simp] theorem countCheck_window : (countCheck s).window = s.window := rfl
@[simp] theorem countCheck_urgent : (countCheck s).urgent = s.urgent := rfl
@[simp] theorem countCheck_routine : (countCheck s).routine = s.routine := rfl
@[simp] theorem countCheck_urgentRun : (countCheck s).urgentRun = s.urgentRun := rfl
@[simp] theorem countCheck_snapshot : (countCheck s).snapshot = s.snapshot := rfl
@[simp] theorem countCheck_part : (countCheck s).part = s.part := rfl
@[simp] theorem countCheck_deskSilent : (countCheck s).deskSilent = s.deskSilent := rfl
@[simp] theorem countCheck_outputs : (countCheck s).outputs = s.outputs := rfl
@[simp] theorem countCheck_readback : (countCheck s).readback = s.readback := rfl
@[simp] theorem countCheck_silenceDeadline : (countCheck s).silenceDeadline = s.silenceDeadline := rfl
@[simp] theorem countCheck_proofs : (countCheck s).proofs = s.proofs := rfl
@[simp] theorem countCheck_nextAttempt : (countCheck s).nextAttempt = s.nextAttempt := rfl
@[simp] theorem countCheck_surveyCursor : (countCheck s).surveyCursor = s.surveyCursor := rfl
@[simp] theorem countCheck_measure : (countCheck s).measure = s.measure := rfl
@[simp] theorem countCheck_health : (countCheck s).health = s.health := rfl
@[simp] theorem countCheck_rx : (countCheck s).rx = s.rx := rfl
@[simp] theorem countCheck_errors :
    (countCheck s).errors = { s.errors with check := satInc 65535 s.errors.check } := rfl
@[simp] theorem countCheck_answers : (countCheck s).answers = s.answers := rfl
@[simp] theorem countCheck_tx : (countCheck s).tx = s.tx := rfl

/-! ## countAbandoned -/

@[simp] theorem countAbandoned_pending : (countAbandoned s).pending = s.pending := rfl
@[simp] theorem countAbandoned_free : (countAbandoned s).free = s.free := rfl
@[simp] theorem countAbandoned_inReset : (countAbandoned s).inReset = s.inReset := rfl
@[simp] theorem countAbandoned_clock : (countAbandoned s).clock = s.clock := rfl
@[simp] theorem countAbandoned_baud : (countAbandoned s).baud = s.baud := rfl
@[simp] theorem countAbandoned_partState : (countAbandoned s).partState = s.partState := rfl
@[simp] theorem countAbandoned_imageStatus : (countAbandoned s).imageStatus = s.imageStatus := rfl
@[simp] theorem countAbandoned_store : (countAbandoned s).store = s.store := rfl
@[simp] theorem countAbandoned_memory : (countAbandoned s).memory = s.memory := rfl
@[simp] theorem countAbandoned_goodFrame : (countAbandoned s).goodFrame = s.goodFrame := rfl
@[simp] theorem countAbandoned_flashLit : (countAbandoned s).flashLit = s.flashLit := rfl
@[simp] theorem countAbandoned_flashStart : (countAbandoned s).flashStart = s.flashStart := rfl
@[simp] theorem countAbandoned_points : (countAbandoned s).points = s.points := rfl
@[simp] theorem countAbandoned_groups : (countAbandoned s).groups = s.groups := rfl
@[simp] theorem countAbandoned_timing : (countAbandoned s).timing = s.timing := rfl
@[simp] theorem countAbandoned_reporting : (countAbandoned s).reporting = s.reporting := rfl
@[simp] theorem countAbandoned_surveySet : (countAbandoned s).surveySet = s.surveySet := rfl
@[simp] theorem countAbandoned_bands : (countAbandoned s).bands = s.bands := rfl
@[simp] theorem countAbandoned_objects : (countAbandoned s).objects = s.objects := rfl
@[simp] theorem countAbandoned_window : (countAbandoned s).window = s.window := rfl
@[simp] theorem countAbandoned_urgent : (countAbandoned s).urgent = s.urgent := rfl
@[simp] theorem countAbandoned_routine : (countAbandoned s).routine = s.routine := rfl
@[simp] theorem countAbandoned_urgentRun : (countAbandoned s).urgentRun = s.urgentRun := rfl
@[simp] theorem countAbandoned_snapshot : (countAbandoned s).snapshot = s.snapshot := rfl
@[simp] theorem countAbandoned_part : (countAbandoned s).part = s.part := rfl
@[simp] theorem countAbandoned_deskSilent : (countAbandoned s).deskSilent = s.deskSilent := rfl
@[simp] theorem countAbandoned_outputs : (countAbandoned s).outputs = s.outputs := rfl
@[simp] theorem countAbandoned_readback : (countAbandoned s).readback = s.readback := rfl
@[simp] theorem countAbandoned_silenceDeadline : (countAbandoned s).silenceDeadline = s.silenceDeadline := rfl
@[simp] theorem countAbandoned_proofs : (countAbandoned s).proofs = s.proofs := rfl
@[simp] theorem countAbandoned_nextAttempt : (countAbandoned s).nextAttempt = s.nextAttempt := rfl
@[simp] theorem countAbandoned_surveyCursor : (countAbandoned s).surveyCursor = s.surveyCursor := rfl
@[simp] theorem countAbandoned_measure : (countAbandoned s).measure = s.measure := rfl
@[simp] theorem countAbandoned_health : (countAbandoned s).health = s.health := rfl
@[simp] theorem countAbandoned_rx : (countAbandoned s).rx = s.rx := rfl
@[simp] theorem countAbandoned_errors :
    (countAbandoned s).errors = { s.errors with abandoned := satInc 65535 s.errors.abandoned } := rfl
@[simp] theorem countAbandoned_answers : (countAbandoned s).answers = s.answers := rfl
@[simp] theorem countAbandoned_tx : (countAbandoned s).tx = s.tx := rfl

/-! ## advance -/

@[simp] theorem advance_pending : (advance s).pending = s.pending := rfl
@[simp] theorem advance_free : (advance s).free = s.free := rfl
@[simp] theorem advance_inReset : (advance s).inReset = s.inReset := rfl
@[simp] theorem advance_clock : (advance s).clock = s.clock + 1 := rfl
@[simp] theorem advance_baud : (advance s).baud = s.baud := rfl
@[simp] theorem advance_partState : (advance s).partState = s.partState := rfl
@[simp] theorem advance_imageStatus : (advance s).imageStatus = s.imageStatus := rfl
@[simp] theorem advance_store : (advance s).store = s.store := rfl
@[simp] theorem advance_memory : (advance s).memory = s.memory := rfl
@[simp] theorem advance_goodFrame : (advance s).goodFrame = s.goodFrame := rfl
@[simp] theorem advance_flashLit : (advance s).flashLit = s.flashLit := rfl
@[simp] theorem advance_flashStart : (advance s).flashStart = s.flashStart := rfl
@[simp] theorem advance_points : (advance s).points = s.points := rfl
@[simp] theorem advance_groups : (advance s).groups = s.groups := rfl
@[simp] theorem advance_timing : (advance s).timing = s.timing := rfl
@[simp] theorem advance_reporting : (advance s).reporting = s.reporting := rfl
@[simp] theorem advance_surveySet : (advance s).surveySet = s.surveySet := rfl
@[simp] theorem advance_bands : (advance s).bands = s.bands := rfl
@[simp] theorem advance_objects : (advance s).objects = s.objects := rfl
@[simp] theorem advance_window : (advance s).window = s.window := rfl
@[simp] theorem advance_urgent : (advance s).urgent = s.urgent := rfl
@[simp] theorem advance_routine : (advance s).routine = s.routine := rfl
@[simp] theorem advance_urgentRun : (advance s).urgentRun = s.urgentRun := rfl
@[simp] theorem advance_snapshot : (advance s).snapshot = s.snapshot := rfl
@[simp] theorem advance_part : (advance s).part = s.part := rfl
@[simp] theorem advance_deskSilent : (advance s).deskSilent = s.deskSilent := rfl
@[simp] theorem advance_outputs : (advance s).outputs = s.outputs := rfl
@[simp] theorem advance_readback : (advance s).readback = s.readback := rfl
@[simp] theorem advance_silenceDeadline : (advance s).silenceDeadline = s.silenceDeadline := rfl
@[simp] theorem advance_proofs : (advance s).proofs = s.proofs := rfl
@[simp] theorem advance_nextAttempt : (advance s).nextAttempt = s.nextAttempt := rfl
@[simp] theorem advance_surveyCursor : (advance s).surveyCursor = s.surveyCursor := rfl
@[simp] theorem advance_measure : (advance s).measure = s.measure := rfl
@[simp] theorem advance_health : (advance s).health = s.health := rfl
@[simp] theorem advance_rx : (advance s).rx = s.rx := rfl
@[simp] theorem advance_errors : (advance s).errors = s.errors := rfl
@[simp] theorem advance_answers : (advance s).answers = s.answers := rfl
@[simp] theorem advance_tx : (advance s).tx = s.tx := rfl

/-! ## drawn -/

@[simp] theorem drawn_pending : (drawn s).pending = s.pending := rfl
@[simp] theorem drawn_free : (drawn s).free = s.free + 1 := rfl
@[simp] theorem drawn_inReset : (drawn s).inReset = s.inReset := rfl
@[simp] theorem drawn_clock : (drawn s).clock = s.clock := rfl
@[simp] theorem drawn_baud : (drawn s).baud = s.baud := rfl
@[simp] theorem drawn_partState : (drawn s).partState = s.partState := rfl
@[simp] theorem drawn_imageStatus : (drawn s).imageStatus = s.imageStatus := rfl
@[simp] theorem drawn_store : (drawn s).store = s.store := rfl
@[simp] theorem drawn_memory : (drawn s).memory = s.memory := rfl
@[simp] theorem drawn_goodFrame : (drawn s).goodFrame = s.goodFrame := rfl
@[simp] theorem drawn_flashLit : (drawn s).flashLit = s.flashLit := rfl
@[simp] theorem drawn_flashStart : (drawn s).flashStart = s.flashStart := rfl
@[simp] theorem drawn_points : (drawn s).points = s.points := rfl
@[simp] theorem drawn_groups : (drawn s).groups = s.groups := rfl
@[simp] theorem drawn_timing : (drawn s).timing = s.timing := rfl
@[simp] theorem drawn_reporting : (drawn s).reporting = s.reporting := rfl
@[simp] theorem drawn_surveySet : (drawn s).surveySet = s.surveySet := rfl
@[simp] theorem drawn_bands : (drawn s).bands = s.bands := rfl
@[simp] theorem drawn_objects : (drawn s).objects = s.objects := rfl
@[simp] theorem drawn_window : (drawn s).window = s.window := rfl
@[simp] theorem drawn_urgent : (drawn s).urgent = s.urgent := rfl
@[simp] theorem drawn_routine : (drawn s).routine = s.routine := rfl
@[simp] theorem drawn_urgentRun : (drawn s).urgentRun = s.urgentRun := rfl
@[simp] theorem drawn_snapshot : (drawn s).snapshot = s.snapshot := rfl
@[simp] theorem drawn_part : (drawn s).part = s.part := rfl
@[simp] theorem drawn_deskSilent : (drawn s).deskSilent = s.deskSilent := rfl
@[simp] theorem drawn_outputs : (drawn s).outputs = s.outputs := rfl
@[simp] theorem drawn_readback : (drawn s).readback = s.readback := rfl
@[simp] theorem drawn_silenceDeadline : (drawn s).silenceDeadline = s.silenceDeadline := rfl
@[simp] theorem drawn_proofs : (drawn s).proofs = s.proofs := rfl
@[simp] theorem drawn_nextAttempt : (drawn s).nextAttempt = s.nextAttempt := rfl
@[simp] theorem drawn_surveyCursor : (drawn s).surveyCursor = s.surveyCursor := rfl
@[simp] theorem drawn_measure : (drawn s).measure = s.measure := rfl
@[simp] theorem drawn_health : (drawn s).health = s.health := rfl
@[simp] theorem drawn_rx : (drawn s).rx = s.rx := rfl
@[simp] theorem drawn_errors : (drawn s).errors = s.errors := rfl
@[simp] theorem drawn_answers : (drawn s).answers = s.answers := rfl
@[simp] theorem drawn_tx : (drawn s).tx = s.tx := rfl

end Sys2Proof.Laws
end

