-- ==== Sys2Proof/Laws/Tables.lean ====
section
/-! SUPPORT. The tables of the state: what a place reads after one place has been replaced. -/

namespace Sys2Proof.Laws

open Sys2Proof.Machine

/-! ## One table -/

@[simp] theorem upd_get_same {α : Type} {n : Nat} (v : Vector α n) (i : Fin n) (a : α) : (upd v i a).get i = a := by
  simp [upd, Vector.get_eq_getElem]

theorem upd_get_ne {α : Type} {n : Nat} (v : Vector α n) {i j : Fin n} (a : α) (h : j ≠ i) :
    (upd v i a).get j = v.get j := by
  have : i.val ≠ j.val := fun e => h (Fin.ext e.symm)
  simp [upd, Vector.get_eq_getElem, Vector.getElem_set_ne, this]

theorem upd_get {α : Type} {n : Nat} (v : Vector α n) (i j : Fin n) (a : α) :
    (upd v i a).get j = if j = i then a else v.get j := by
  by_cases h : j = i
  · subst h; simp
  · simp [upd_get_ne v a h, h]

@[simp] theorem upd_upd {α : Type} {n : Nat} (v : Vector α n) (i : Fin n) (a b : α) : upd (upd v i a) i b = upd v i b := by
  apply Vector.ext
  intro k hk
  simp only [upd, Vector.getElem_set]
  split <;> simp_all

@[simp] theorem upd_self {α : Type} {n : Nat} (v : Vector α n) (i : Fin n) : upd v i (v.get i) = v := by
  apply Vector.ext
  intro k hk
  simp only [upd, Vector.getElem_set, Vector.get_eq_getElem]
  split <;> simp_all

theorem upd_comm {α : Type} {n : Nat} (v : Vector α n) {i j : Fin n} (a b : α) (h : i ≠ j) :
    upd (upd v i a) j b = upd (upd v j b) i a := by
  have : i.val ≠ j.val := fun e => h (Fin.ext e)
  apply Vector.ext
  intro k hk
  simp only [upd, Vector.getElem_set]
  split <;> split <;> simp_all

theorem table_ext {α : Type} {n : Nat} {v w : Vector α n} (h : ∀ i, v.get i = w.get i) : v = w := by
  apply Vector.ext
  intro k hk
  have := h ⟨k, hk⟩
  simpa [Vector.get_eq_getElem] using this

@[simp] theorem get_map {α β : Type} {n : Nat} (f : α → β) (v : Vector α n) (i : Fin n) :
    (v.map f).get i = f (v.get i) := by
  simp [Vector.get_eq_getElem]

@[simp] theorem get_replicate {α : Type} {n : Nat} (a : α) (i : Fin n) : (Vector.replicate n a).get i = a := by
  simp [Vector.get_eq_getElem]

@[simp] theorem get_ofFn {α : Type} {n : Nat} (f : Fin n → α) (i : Fin n) : (Vector.ofFn f).get i = f i := by
  simp [Vector.get_eq_getElem]

/-! ## The tables of the state -/

variable (s : State)

theorem point_setPoint (p q : PointId) (x : Point) : (s.setPoint p x).point q = if q = p then x else s.point q :=
  upd_get _ _ _ _

theorem group_setGroup (g h : GroupId) (x : Group) : (s.setGroup g x).group h = if h = g then x else s.group h :=
  upd_get _ _ _ _

theorem object_setObject (n m : ObjId) (x : Obj) :
    (s.setObject n x).object m = if m = n then some x else s.object m := upd_get _ _ _ _

theorem output_setOutput (i j : OutId) (x : Output) :
    (s.setOutput i x).output j = if j = i then some x else s.output j := upd_get _ _ _ _

theorem proof_setProof (i j : OutId) (x : Proof) : (s.setProof i x).proof j = if j = i then x else s.proof j :=
  upd_get _ _ _ _

theorem healthOf_setHealth (p q : PointId) (x : Health) :
    (s.setHealth p x).healthOf q = if q = p then x else s.healthOf q := upd_get _ _ _ _

@[simp] theorem point_setPoint_same (p : PointId) (x : Point) : (s.setPoint p x).point p = x := upd_get_same _ _ _

@[simp] theorem group_setGroup_same (g : GroupId) (x : Group) : (s.setGroup g x).group g = x := upd_get_same _ _ _

@[simp] theorem object_setObject_same (n : ObjId) (x : Obj) : (s.setObject n x).object n = some x := upd_get_same _ _ _

@[simp] theorem output_setOutput_same (i : OutId) (x : Output) : (s.setOutput i x).output i = some x :=
  upd_get_same _ _ _

@[simp] theorem proof_setProof_same (i : OutId) (x : Proof) : (s.setProof i x).proof i = x := upd_get_same _ _ _

@[simp] theorem healthOf_setHealth_same (p : PointId) (x : Health) : (s.setHealth p x).healthOf p = x :=
  upd_get_same _ _ _

/-! ## The readers see their own table alone -/

theorem point_of_points {s t : State} (h : t.points = s.points) (p : PointId) : t.point p = s.point p := by
  simp [State.point, h]

theorem group_of_groups {s t : State} (h : t.groups = s.groups) (g : GroupId) : t.group g = s.group g := by
  simp [State.group, h]

theorem object_of_objects {s t : State} (h : t.objects = s.objects) (n : ObjId) : t.object n = s.object n := by
  simp [State.object, h]

theorem output_of_outputs {s t : State} (h : t.outputs = s.outputs) (i : OutId) : t.output i = s.output i := by
  simp [State.output, h]

theorem proof_of_proofs {s t : State} (h : t.proofs = s.proofs) (i : OutId) : t.proof i = s.proof i := by
  simp [State.proof, h]

theorem healthOf_of_health {s t : State} (h : t.health = s.health) (p : PointId) : t.healthOf p = s.healthOf p := by
  simp [State.healthOf, h]

/-- A live object is a defined one whose admission is LIVE. -/
theorem live_eq_some {s : State} {n : ObjId} {o : Obj} :
    s.live n = some o ↔ s.object n = some o ∧ o.admission = .live := by
  unfold State.live
  cases h : s.object n with
  | none => simp
  | some x =>
    by_cases hx : x.admission = .live
    · simp [hx]; rintro rfl; exact hx
    · simp [hx]; rintro rfl; exact hx

end Sys2Proof.Laws
end

