-- ==== Sys2Proof/Laws/Footprints.lean ====
section
/-! SUPPORT. What each shared operation can change, said once: a state that is the old one but for the fields named. -/

namespace Sys2Proof.Laws

open Sys2Proof.Machine

/-! ## The kinds of change -/

/-- The two queues may differ, nothing else. -/
def QueuesOnly (s t : State) : Prop := ∃ u r, t = { s with urgent := u, routine := r }

/-- The outputs, the proofs, the queues and the free counter may differ, nothing else. -/
def OutputSide (s t : State) : Prop :=
  ∃ os ps u r f, t = { s with outputs := os, proofs := ps, urgent := u, routine := r, free := f }

/-- The objects and the output side may differ, nothing else. -/
def ObjectSide (s t : State) : Prop :=
  ∃ ns os ps u r f, t = { s with objects := ns, outputs := os, proofs := ps, urgent := u, routine := r, free := f }

/-- What sending can change: the news of the sources, the queues, the run, the snapshot, the answers and the line. -/
def SendSide (s t : State) : Prop :=
  ∃ ns os p u r k n a x, t = { s with objects := ns, outputs := os, part := p, urgent := u, routine := r, urgentRun := k,
                                      snapshot := n, answers := a, tx := x }

theorem QueuesOnly.refl (s : State) : QueuesOnly s s := ⟨_, _, rfl⟩

theorem QueuesOnly.trans {s t u : State} (h : QueuesOnly s t) (k : QueuesOnly t u) : QueuesOnly s u := by
  obtain ⟨_, _, rfl⟩ := h; obtain ⟨_, _, rfl⟩ := k; exact ⟨_, _, rfl⟩

theorem OutputSide.refl (s : State) : OutputSide s s := ⟨_, _, _, _, _, rfl⟩

theorem OutputSide.trans {s t u : State} (h : OutputSide s t) (k : OutputSide t u) : OutputSide s u := by
  obtain ⟨_, _, _, _, _, rfl⟩ := h; obtain ⟨_, _, _, _, _, rfl⟩ := k; exact ⟨_, _, _, _, _, rfl⟩

theorem QueuesOnly.outputSide {s t : State} (h : QueuesOnly s t) : OutputSide s t := by
  obtain ⟨_, _, rfl⟩ := h; exact ⟨_, _, _, _, _, rfl⟩

theorem ObjectSide.refl (s : State) : ObjectSide s s := ⟨_, _, _, _, _, _, rfl⟩

theorem ObjectSide.trans {s t u : State} (h : ObjectSide s t) (k : ObjectSide t u) : ObjectSide s u := by
  obtain ⟨_, _, _, _, _, _, rfl⟩ := h; obtain ⟨_, _, _, _, _, _, rfl⟩ := k; exact ⟨_, _, _, _, _, _, rfl⟩

theorem OutputSide.objectSide {s t : State} (h : OutputSide s t) : ObjectSide s t := by
  obtain ⟨_, _, _, _, _, rfl⟩ := h; exact ⟨_, _, _, _, _, _, rfl⟩

theorem QueuesOnly.objectSide {s t : State} (h : QueuesOnly s t) : ObjectSide s t := h.outputSide.objectSide

theorem SendSide.refl (s : State) : SendSide s s := ⟨_, _, _, _, _, _, _, _, _, rfl⟩

theorem SendSide.trans {s t u : State} (h : SendSide s t) (k : SendSide t u) : SendSide s u := by
  obtain ⟨_, _, _, _, _, _, _, _, _, rfl⟩ := h; obtain ⟨_, _, _, _, _, _, _, _, _, rfl⟩ := k
  exact ⟨_, _, _, _, _, _, _, _, _, rfl⟩

/-- A fold of changes of one kind is a change of that kind. -/
theorem outputSide_foldl {α : Type} (f : State → α → State) (h : ∀ s a, OutputSide s (f s a)) :
    ∀ (l : List α) (s : State), OutputSide s (l.foldl f s)
  | [], s => .refl s
  | a :: l, s => (h s a).trans (outputSide_foldl f h l (f s a))

theorem objectSide_foldl {α : Type} (f : State → α → State) (h : ∀ s a, ObjectSide s (f s a)) :
    ∀ (l : List α) (s : State), ObjectSide s (l.foldl f s)
  | [], s => .refl s
  | a :: l, s => (h s a).trans (objectSide_foldl f h l (f s a))

/-! ## Requests -/

theorem request_queuesOnly (src : Source) (c : ReportClass) (s : State) : QueuesOnly s (request src c s) := by
  unfold request
  split
  · exact .refl s
  · split <;> exact ⟨_, _, rfl⟩

theorem removeEntry_queuesOnly (src : Source) (s : State) : QueuesOnly s (removeEntry src s) := ⟨_, _, rfl⟩

/-! ## Outputs and proofs -/

theorem setOutput_outputSide (i : OutId) (x : Output) (s : State) : OutputSide s (s.setOutput i x) :=
  ⟨_, _, _, _, _, rfl⟩

theorem setProof_outputSide (i : OutId) (x : Proof) (s : State) : OutputSide s (s.setProof i x) := ⟨_, _, _, _, _, rfl⟩

theorem postOutcome_outputSide (i : OutId) (x : ProofOutcome) (p : Proof) (time : Nat) (s : State) :
    OutputSide s (postOutcome i x p time s) := by
  unfold postOutcome
  split
  · exact (setOutput_outputSide _ _ s).trans (request_queuesOnly _ _ _).outputSide
  · exact .refl s

theorem endProof_outputSide (i : OutId) (x : ProofOutcome) (time : Nat) (s : State) :
    OutputSide s (endProof i x time s) := by
  unfold endProof
  split
  · exact (setProof_outputSide _ _ s).trans (postOutcome_outputSide _ _ _ _ _)
  · exact .refl s

theorem startProof_outputSide (i : OutId) (k : CmdKind) (s : State) : OutputSide s (startProof i k s) := by
  unfold startProof
  refine (endProof_outputSide i .abandoned 0 s).trans ?_
  dsimp only
  split
  · exact .refl _
  · split
    · exact (setProof_outputSide _ _ _).trans (postOutcome_outputSide _ _ _ _ _)
    · exact setProof_outputSide _ _ _

theorem proveChange_outputSide (t : Time) (s : State) (i : OutId) : OutputSide s (proveChange t s i) := by
  unfold proveChange
  dsimp only
  split <;> exact endProof_outputSide _ _ _ _

theorem notifyProofs_outputSide (n : ObjId) (v : Indication) (t : Time) (s : State) :
    OutputSide s (notifyProofs n v t s) :=
  OutputSide.trans ⟨_, _, _, _, _, rfl⟩ (outputSide_foldl _ (proveChange_outputSide t) _ _)

theorem proofPulseEnd_outputSide (i : OutId) (s : State) : OutputSide s (proofPulseEnd i s) := by
  unfold proofPulseEnd
  split
  · exact endProof_outputSide _ _ _ _
  · exact .refl s

theorem sampleDriver_outputSide (i : OutId) (s : State) : OutputSide s (sampleDriver i s) := by
  unfold sampleDriver
  split
  · split
    · exact setOutput_outputSide _ _ s
    · exact .refl s
  · exact .refl s

theorem enterState_outputSide (i : OutId) (st : OutState) (s : State) : OutputSide s (enterState i st s) := by
  unfold enterState
  split
  · exact (setOutput_outputSide _ _ s).trans (sampleDriver_outputSide _ _)
  · exact .refl s

theorem driverFault_outputSide (i : OutId) (s : State) : OutputSide s (driverFault i s) :=
  ((enterState_outputSide i .faulted s).trans (endProof_outputSide _ _ _ _)).trans
    (request_queuesOnly _ _ _).outputSide

theorem applyStagedAt_outputSide (i : OutId) (s : State) : OutputSide s (applyStagedAt i s) := by
  unfold applyStagedAt
  split
  · exact setOutput_outputSide _ _ s
  · exact .refl s

theorem pulseTo_outputSide (i : OutId) (k : CmdKind) (e : Time) (s : State) : OutputSide s (pulseTo i k e s) :=
  (enterState_outputSide _ _ _).trans (startProof_outputSide _ _ _)

theorem pulse_outputSide (i : OutId) (s : State) : OutputSide s (pulse i s) :=
  (applyStagedAt_outputSide i s).trans (pulseTo_outputSide _ _ _ _)

theorem latch_outputSide (i : OutId) (x : Output) (s : State) : OutputSide s (latch i x s) := by
  unfold latch
  split
  · exact ((applyStagedAt_outputSide i s).trans (enterState_outputSide _ _ _)).trans (startProof_outputSide _ _ _)
  · exact ((applyStagedAt_outputSide i s).trans (enterState_outputSide _ _ _)).trans (proofPulseEnd_outputSide _ _)
  · exact .refl s
  · exact .refl s

theorem groupPulse_outputSide (l : List OutId) (ms : Nat) (s : State) : OutputSide s (groupPulse l ms s) :=
  (outputSide_foldl _ (fun t i => applyStagedAt_outputSide i t) l s).trans
    (outputSide_foldl _ (fun t i => pulseTo_outputSide i .group _ t) l _)

theorem endPulse_outputSide (i : OutId) (s : State) : OutputSide s (endPulse i s) :=
  (enterState_outputSide _ _ _).trans (proofPulseEnd_outputSide _ _)

theorem releaseOne_outputSide (s : State) (i : OutId) : OutputSide s (releaseOne s i) := by
  unfold releaseOne
  split
  · split
    · exact (enterState_outputSide _ _ _).trans (endProof_outputSide _ _ _ _)
    · exact endProof_outputSide _ _ _ _
  · exact .refl s

theorem releaseEvery_outputSide (s : State) : OutputSide s (releaseEvery s) := outputSide_foldl _ releaseOne_outputSide _ s

/-! ## Objects -/

theorem setObject_objectSide (n : ObjId) (o : Obj) (s : State) : ObjectSide s (s.setObject n o) :=
  ⟨_, _, _, _, _, _, rfl⟩

theorem applyStep_objectSide (n : ObjId) (p : ObjStep) (s : State) : ObjectSide s (applyStep n p s) := by
  unfold applyStep
  refine (setObject_objectSide n p.obj s).trans ?_
  dsimp only
  split <;> split
  · exact (notifyProofs_outputSide _ _ _ _).objectSide.trans (request_queuesOnly _ _ _).objectSide
  · exact (request_queuesOnly _ _ _).objectSide
  · exact (notifyProofs_outputSide _ _ _ _).objectSide
  · exact .refl _

theorem settleIn_objectSide (n : ObjId) (s : State) : ObjectSide s (settleIn n s) := by
  unfold settleIn
  split
  · exact applyStep_objectSide _ _ _
  · exact .refl s

theorem transitExpired_objectSide (n : ObjId) (s : State) : ObjectSide s (transitExpired n s) := by
  unfold transitExpired
  split
  · split
    · exact applyStep_objectSide _ _ _
    · exact .refl s
  · exact .refl s

theorem conflictExpired_objectSide (n : ObjId) (s : State) : ObjectSide s (conflictExpired n s) := by
  unfold conflictExpired
  split
  · split
    · exact applyStep_objectSide _ _ _
    · exact .refl s
  · exact .refl s

theorem steadyExpired_objectSide (n : ObjId) (s : State) : ObjectSide s (steadyExpired n s) := by
  unfold steadyExpired
  split
  · split
    · exact applyStep_objectSide _ _ _
    · exact .refl s
  · exact .refl s

theorem boundaryAt_objectSide (s : State) (n : ObjId) : ObjectSide s (boundaryAt s n) := by
  unfold boundaryAt
  split
  · exact applyStep_objectSide _ _ _
  · exact .refl s

theorem deliverEdge_objectSide (p : PointId) (l : Level) (cap : Time) (s : State) :
    ObjectSide s (deliverEdge p l cap s) := by
  unfold deliverEdge
  split
  · split
    · split
      · exact applyStep_objectSide _ _ _
      · exact .refl s
    · exact .refl s
  · exact .refl s

theorem degradeOwner_objectSide (p : PointId) (s : State) : ObjectSide s (degradeOwner p s) := by
  unfold degradeOwner
  split
  · split
    · exact applyStep_objectSide _ _ _
    · exact .refl s
  · exact .refl s

/-! ## Sending -/

theorem deliver_sendSide {src : Source} {m : Marks} {t : Time} {s u : State} {f : Frame}
    (h : deliver src m t s = some (f, u)) : SendSide s u := by
  unfold deliver at h
  split at h
  · simp only [Option.map_eq_some_iff, Prod.mk.injEq] at h
    obtain ⟨o, _, _, rfl⟩ := h
    exact ⟨_, _, _, _, _, _, _, _, _, rfl⟩
  · simp only [Option.map_eq_some_iff, Prod.mk.injEq] at h
    obtain ⟨o, _, _, rfl⟩ := h
    exact ⟨_, _, _, _, _, _, _, _, _, rfl⟩
  · simp only [Option.some.injEq, Prod.mk.injEq] at h
    obtain ⟨_, rfl⟩ := h
    exact ⟨_, _, _, _, _, _, _, _, _, rfl⟩

theorem transmit_sendSide (f : Frame) (ps : List Frame) (r : Bool) (s : State) : SendSide s (transmit f ps r s) :=
  ⟨_, _, _, _, _, _, _, _, _, rfl⟩

theorem removeEntry_sendSide (src : Source) (s : State) : SendSide s (removeEntry src s) :=
  ⟨_, _, _, _, _, _, _, _, _, rfl⟩

theorem sendEntry_sendSide (e : Entry) (urgent : Bool) (s : State) : SendSide s (sendEntry e urgent s) := by
  unfold sendEntry
  refine (removeEntry_sendSide e.source s).trans ?_
  dsimp only
  split
  · rename_i h
    exact (deliver_sendSide h).trans (transmit_sendSide _ _ _ _)
  · exact .refl _

theorem sendRecord_sendSide (src : Source) (s : State) : SendSide s (sendRecord src s) := by
  unfold sendRecord
  split
  · split
    · exact transmit_sendSide _ _ _ _
    · exact .refl s
  · refine (removeEntry_sendSide src s).trans ?_
    dsimp only
    split
    · rename_i h
      exact (deliver_sendSide h).trans (transmit_sendSide _ _ _ _)
    · exact .refl _

theorem sendSnapshot_sendSide (p : Snapshot) (s : State) : SendSide s (sendSnapshot p s) := by
  have h0 : SendSide s { s with snapshot := some (p.advance s) } := ⟨_, _, _, _, _, _, _, _, _, rfl⟩
  unfold sendSnapshot
  dsimp only
  split
  · exact h0.trans (transmit_sendSide _ _ _ _)
  · exact h0.trans (sendRecord_sendSide _ _)
  · exact h0.trans (sendRecord_sendSide _ _)
  · exact h0.trans (sendRecord_sendSide _ _)
  · exact ⟨_, _, _, _, _, _, _, _, _, rfl⟩

theorem sendRoutine_sendSide (s : State) : SendSide s (sendRoutine s) := by
  unfold sendRoutine
  split
  · exact sendSnapshot_sendSide _ _
  · exact sendEntry_sendSide _ _ _
  · exact .refl s

theorem choose_sendSide (s : State) : SendSide s (choose s) := by
  have run : ∀ k, SendSide s { s with urgentRun := k } := fun k => ⟨_, _, _, _, _, _, _, _, _, rfl⟩
  unfold choose
  split
  · exact ⟨_, _, _, _, _, _, _, _, _, rfl⟩
  · split
    · split
      · exact (run 0).trans (sendRoutine_sendSide _)
      · exact (run _).trans (sendEntry_sendSide _ _ _)
    · exact sendEntry_sendSide _ _ _
  · split
    · exact (run 0).trans (sendRoutine_sendSide _)
    · exact .refl s

/-- The scheduler's choice changes nothing but what sending changes. -/
theorem schedule_sendSide (s : State) : SendSide s (schedule s) := by
  unfold schedule
  split
  · exact .refl s
  · exact choose_sendSide s

theorem schedule_busy {s : State} (h : s.tx.isSome = true) : schedule s = s := by
  unfold schedule
  split
  · rfl
  · simp_all

theorem schedule_quiet {s : State} (h : s.waiting = false) : schedule s = s := by
  simp only [State.waiting, Bool.or_eq_false_iff, Bool.not_eq_false', List.isEmpty_iff] at h
  obtain ⟨⟨ha, hu⟩, hr⟩ := h
  unfold schedule
  split
  · rfl
  · simp [choose, ha, hu, hr]

end Sys2Proof.Laws
end

