-- ==== Sys2Proof/Laws/Tests.lean ====
section
/-! SUPPORT. The tests an operation makes, as the statements word them. -/

namespace Sys2Proof.Machine

open Sys2Proof.Safety

/-- The exclusion check of R114 in the statements' words. -/
theorem excluded_iff (s : State) (x : Output) : excluded s x = true ↔ ExclusionFails s x := by
  unfold excluded ExclusionFails
  rcases hp : x.cfg.partner with _ | j
  · simp
  · rcases hy : s.output j with _ | y
    · simp [partnerBlocks, hy]
    · simp [partnerBlocks, hy, State.driverOn]

/-- R133 test 1 in the statements' words. -/
theorem proofCourse_noObject_iff (s : State) (object : Option ObjId) (expected : Option Indication) :
    proofCourse s object expected = .noObject ↔ NothingToWatch s object := by
  unfold proofCourse NothingToWatch
  rcases object with _ | n
  · simp
  · rcases ho : s.object n with _ | o
    · simp only [Option.bind_some, ho, Option.some.injEq, true_iff]
      rintro m p rfl hp
      simp [ho] at hp
    · simp only [Option.bind_some, ho, Option.some.injEq]
      split_ifs with h1 h2
      · simp only [true_iff]
        rintro m p rfl hp
        obtain rfl : o = p := by simpa [ho] using hp
        exact h1
      all_goals
        simp only [false_iff]
        exact fun h => h1 (h n o rfl ho)

/-- R133 test 2 in the statements' words. -/
theorem proofCourse_already_iff (s : State) (object : Option ObjId) (expected : Option Indication) :
    proofCourse s object expected = .already ↔ AlreadyThere s object expected := by
  unfold proofCourse AlreadyThere
  rcases object with _ | n
  · simp
  · rcases ho : s.object n with _ | o
    · simp [ho]
    · simp only [Option.bind_some, ho]
      have ha : o.admission = .suspended ∨ o.admission = .live := by cases o.admission <;> simp
      split_ifs with h1 h2
      · simp_all
      · rcases ha with ha | ha <;> simp_all
      · rcases ha with ha | ha
        · exact absurd ha h1
        · simp only [false_iff, not_exists, not_and]
          rintro m p hm hp - hs he
          obtain rfl : m = n := by simpa using hm.symm
          obtain rfl : p = o := by simpa [ho] using hp.symm
          exact h2 ⟨he.symm, hs⟩

/-- Where neither test applies the proof watches (R133). -/
theorem proofCourse_watch_iff (s : State) (object : Option ObjId) (expected : Option Indication) :
    proofCourse s object expected = .watch ↔ ¬ NothingToWatch s object ∧ ¬ AlreadyThere s object expected := by
  rw [← proofCourse_noObject_iff s object expected, ← proofCourse_already_iff]
  cases proofCourse s object expected <;> simp

/-- R145 in the statements' words. -/
theorem eligible_iff (s : State) (p : PointId) : eligible s p = true ↔ MayBeMeasured s p := by
  unfold eligible MayBeMeasured
  rcases h : (s.point p).owner with _ | n
  · simp
  · rcases ho : s.object n with _ | o
    · simp [State.live, ho]
    · by_cases ha : o.admission = .live <;> simp [State.live, ho, ha]

/-- R132 in the statements' words. -/
theorem reachable_iff (bands : Vector (Option Band) 8) (k : Kind) (v : Indication) : reachable bands k v = true ↔
    ((k ≠ .coded ∧ (v = .picked ∨ v = .dropped)) ∨ (k = .coded ∧ (v = .steadyMade ∨ v = .steadyOpen
      ∨ ∃ c, v = .code c ∧ (bands.get c).isSome = true))) := by
  rcases k with se | b | _
  · simp [reachable]
  · simp [reachable]
  · rcases v with _ | _ | _ | _ | _ | _ | _ | c | _ <;> simp [reachable]

/-- The tests of START in the statements' words. -/
theorem outputPasses_iff (s : State) (i : OutId) : outputPasses s i = true ↔ PassesStart s i := by
  unfold outputPasses PassesStart
  rcases hx : s.output i with _ | x
  · simp
  · have hpart : partnerMutual s i x = true ↔
        ∀ j, x.cfg.partner = some j → ∃ y, s.output j = some y ∧ y.cfg.partner = some i := by
      unfold partnerMutual
      rcases x.cfg.partner with _ | j
      · simp
      · rcases hy : s.output j with _ | y <;> simp [hy]
    have hreach : ∀ (k : Kind) (v : Indication), reachable s.bands k v = true ↔
        ((k ≠ .coded ∧ (v = .picked ∨ v = .dropped)) ∨ (k = .coded ∧ (v = .steadyMade ∨ v = .steadyOpen
          ∨ ∃ c, v = .code c ∧ (s.bands.get c).isSome = true))) := by
      intro k v
      exact reachable_iff s.bands k v
    have hprov : provingFit s x = true ↔ ∀ n, x.cfg.proving = some n → ∃ o v, s.object n = some o ∧
        x.cfg.expected = some v ∧ reachable s.bands o.cfg.kind v = true := by
      unfold provingFit
      rcases x.cfg.proving with _ | n
      · simp
      · rcases ho : s.object n with _ | o <;> rcases he : x.cfg.expected with _ | v <;> simp [ho]
    simp only [Bool.and_eq_true, hpart, hprov, hreach, Option.some.injEq]
    constructor
    · rintro ⟨h1, h2⟩ y rfl
      exact ⟨h1, h2⟩
    · intro h
      exact h x rfl

/-! ## What is due, in the statements' words -/

theorem deadlineReached_iff {d : Option Time} {now : Time} : deadlineReached d now = true ↔ Reached d now := by
  cases d <;> simp [deadlineReached, Reached]

/-- R2 with log 21: a deadline set less than 2^31 units ahead has been reached from its count on. -/
theorem reached_after (t now : Time) (d : Nat) (h : d < 2147483648) :
    reached (after t d) now = true ↔ d ≤ interval t now ∧ interval t now < d + 2147483648 := by
  simp only [reached, after, interval, decide_eq_true_eq, BitVec.toNat_sub, BitVec.toNat_add, BitVec.toNat_ofNat]
  have ht := t.isLt
  have hn := now.isLt
  omega

/-- A test made at a LIVE object in RUNNING. -/
theorem atLive_iff {s : State} {n : ObjId} {f : Obj → Bool} {P : Obj → Prop} (h : ∀ o, f o = true ↔ P o) :
    (decide (s.partState = .running) && (match s.live n with
      | some o => f o
      | none => false)) = true ↔ ∃ o, LiveInRunning s n o ∧ P o := by
  unfold LiveInRunning
  rcases hl : s.live n with _ | o
  · simp only [Bool.and_false, Bool.false_eq_true, false_iff, not_exists, not_and]
    rintro o ⟨-, ho, ha⟩
    rw [Laws.live_eq_some.2 ⟨ho, ha⟩] at hl
    cases hl
  · have hw := Laws.live_eq_some.1 hl
    simp only [Bool.and_eq_true, decide_eq_true_eq, h]
    constructor
    · rintro ⟨hr, hp⟩
      exact ⟨o, ⟨hr, hw.1, hw.2⟩, hp⟩
    · rintro ⟨q, ⟨hr, hq, -⟩, hp⟩
      rw [hw.1] at hq
      cases hq
      exact ⟨hr, hp⟩

theorem edgeDue_iff (s : State) (p : PointId) : edgeDue s p = true ↔ EdgeDue s p := by
  simp [edgeDue, EdgeDue, Point.filtering]

theorem settleDue_iff (s : State) (n : ObjId) : settleDue s n = true ↔ SettleDue s n := by
  exact atLive_iff fun o => by simp [deadlineReached_iff]

theorem transitDue_iff (s : State) (n : ObjId) : transitDue s n = true ↔ TransitDue s n := by
  exact atLive_iff fun o => by simp [deadlineReached_iff]

theorem conflictDue_iff (s : State) (n : ObjId) : conflictDue s n = true ↔ ConflictDue s n := by
  exact atLive_iff fun o => by simp [deadlineReached_iff]

theorem steadyDue_iff (s : State) (n : ObjId) : steadyDue s n = true ↔ SteadyDue s n := by
  exact atLive_iff fun o => by simp [deadlineReached_iff]

theorem boundaryDue_iff (s : State) : boundaryDue s = true ↔ BoundaryDue s := by
  unfold boundaryDue BoundaryDue
  rcases s.window with _ | w <;> simp [deadlineReached]

theorem pulseEndDue_iff (s : State) (i : OutId) : pulseEndDue s i = true ↔ PulseEndDue s i := by
  unfold pulseEndDue PulseEndDue
  rcases s.output i with _ | x
  · simp
  · rcases hx : x.state with _ | e | _ | _ <;> simp [hx]

theorem driverFaultDue_iff (s : State) (i : OutId) : driverFaultDue s i = true ↔ DriverFaultDue s i := by
  unfold driverFaultDue DriverFaultDue Config.driverCheckUnits
  rcases s.output i with _ | x
  · simp
  · rcases hm : x.mismatch with _ | m <;> simp [hm]

theorem proofDue_iff (s : State) (i : OutId) : proofDue s i = true ↔ ProofDue s i := by
  simp [proofDue, ProofDue, deadlineReached_iff]

theorem silenceDue_iff (s : State) : silenceDue s = true ↔ SilenceDue s := by
  simp [silenceDue, SilenceDue, deadlineReached_iff]

theorem attemptDue_iff (s : State) : attemptDue s = true ↔ AttemptDue s := by
  simp [attemptDue, AttemptDue, deadlineReached_iff]

theorem referenceDue_iff (s : State) : (referenceDue s).isSome = true ↔ ReferenceDue s := by
  unfold referenceDue ReferenceDue gateReached Config.gateUnits
  rcases s.measure with _ | m <;> simp [Option.filter]

theorem pointGateDue_iff (s : State) : (pointGateDue s).isSome = true ↔ PointGateDue s := by
  unfold pointGateDue PointGateDue gateReached Config.gateUnits
  rcases s.measure with _ | m
  · simp
  · rcases hp : m.phase with _ | c <;> simp [hp]

theorem flashDue_iff (s : State) : flashDue s = true ↔ FlashDue s := by
  unfold flashDue FlashDue Config.flashUnits
  simp

theorem gapDue_iff (s : State) : gapDue s = true ↔ GapDue s := by
  unfold gapDue GapDue Config.gapUnits
  rcases s.rx.kept.getLast? with _ | x <;> simp [and_assoc]

theorem loadOverdue_iff (s : State) : loadOverdue s = true ↔ s.partState = .loading ∧ 15000 ≤ s.clock.toNat := by
  unfold loadOverdue Config.loadUnits
  simp

theorem storeOverdue_iff (s : State) :
    storeOverdue s = true ↔ ∃ job, s.store = some job ∧ 30000 ≤ interval job.start s.clock := by
  unfold storeOverdue Config.storeUnits
  rcases s.store with _ | job <;> simp

theorem frameTimeRun_iff (s : State) : s.tx.any (frameTimeRun s) = true ↔ LineTimeRun s := by
  have hb : ∀ f : Frame, f.bytes.length = f.length := fun f => by
    simp [Frame.bytes, Frame.checked, Frame.length, be16]
  unfold LineTimeRun
  rcases s.tx with _ | x
  · simp
  · cases hr : s.baud <;> simp [frameTimeRun, Baud.rate, hb, hr] <;> omega

/-- An event is due exactly when the condition of its rule holds. -/
theorem mem_dueEvents_iff (s : State) (e : Instr) : e ∈ dueEvents s ↔ DueNow s e := by
  have h1 := edgeDue_iff s
  have h2 := settleDue_iff s
  have h3 := transitDue_iff s
  have h4 := conflictDue_iff s
  have h5 := steadyDue_iff s
  have h6 := boundaryDue_iff s
  have h7 := pulseEndDue_iff s
  have h8 := driverFaultDue_iff s
  have h9 := proofDue_iff s
  have h10 := silenceDue_iff s
  have h11 := attemptDue_iff s
  have h12 := referenceDue_iff s
  have h13 := pointGateDue_iff s
  have h14 := flashDue_iff s
  have h15 := gapDue_iff s
  have h16 := loadOverdue_iff s
  have h17 := storeOverdue_iff s
  have h18 := frameTimeRun_iff s
  simp only [dueEvents, duePoints, dueObjects, dueOutputs, dueSurvey, dueLink, List.mem_append, List.mem_map, List.mem_filter,
    List.mem_finRange, true_and, h1, h2, h3, h4, h5, h6, h7, h8, h9, h10, h11, h12, h13, h14,
    h15, h16, h17, h18, List.mem_ite_nil_right,
    List.mem_singleton]
  delta DueNow
  cases e <;> simp only [reduceCtorEq, Instr.edgeAccept.injEq, Instr.settleInDeadline.injEq, Instr.transitDeadline.injEq,
    Instr.conflictDeadline.injEq, Instr.steadyDeadline.injEq, Instr.pulseEnd.injEq, Instr.driverCheckFault.injEq,
    Instr.proofDeadline.injEq, Instr.referenceGateEnd.injEq, Instr.pointGateEnd.injEq, Instr.imageLoadEnd.injEq,
    Instr.storeEnd.injEq, and_false, exists_false, or_false, false_or, exists_eq_right, and_true]

end Sys2Proof.Machine
end

