-- ==== Sys2Proof/Laws/Image.lean ====
section
/-! SUPPORT. The bytes of the configuration image: what is written is read back (R170, R172), and what the definition of
one object or output from the image does. -/

namespace Sys2Proof.Laws

open Sys2Proof.Machine Sys2Proof.Safety

/-! ## Reading back what was written -/

/-- A reader takes off the front what a writer wrote. -/
def ReadsBack {α : Type} (write : α → List Byte) (r : Reader α) : Prop := ∀ x l, r (write x ++ l) = some (x, l)

theorem word_of_bytes (w : Word16) : word (w.extractLsb' 8 8) (w.extractLsb' 0 8) = w := by
  unfold word
  ext i hi
  simp only [BitVec.getElem_append, BitVec.getElem_extractLsb']
  split
  · rw [Nat.zero_add, BitVec.getLsbD_eq_getElem hi]
  · rw [show 8 + (i - 8) = i by omega, BitVec.getLsbD_eq_getElem hi]

theorem flagOfByte_flagByte (b : Bool) : flagOfByte (flagByte b) = some b := by cases b <;> rfl

theorem readMany_back {α : Type} {write : α → List Byte} {r : Reader α} (h : ReadsBack write r) (xs : List α) (l :
    List Byte) :
    readMany r xs.length (xs.flatMap write ++ l) = some (xs, l) := by
  induction xs with
  | nil => rfl
  | cons x xs ih => simp [readMany, h x, ih]

theorem readCounted_back {α : Type} {write : α → List Byte} {r : Reader α} (h : ReadsBack write r) (xs : List α)
    (l : List Byte) (hl : xs.length ≤ 255) : readCounted r (counted write xs ++ l) = some (xs, l) := by
  have hn : (u8 xs.length).toNat = xs.length := by
    simp only [u8, BitVec.toNat_ofNat]
    omega
  simp only [counted, List.cons_append, List.nil_append, readCounted, hn]
  exact readMany_back h xs l

theorem readTable_back {α : Type} {n : Nat} {write : α → List Byte} {r : Reader α} (h : ReadsBack write r) (v :
    Vector α n)
    (l : List Byte) : readTable r n (v.toList.flatMap write ++ l) = some (v, l) := by
  have hm := readMany_back h v.toList l
  rw [Vector.length_toList] at hm
  have ht : tableOf n v.toList = some v := by
    unfold tableOf
    rw [dif_pos (by simp)]
    congr 1
  simp [readTable, hm, ht]

theorem readGroup_back : ReadsBack GroupForm.bytes readGroup := fun f l => by
  simp [GroupForm.bytes, wordBytes, readGroup, flagOfByte_flagByte, word_of_bytes]

theorem readBand_back : ReadsBack BandForm.bytes readBand := fun f l => by
  rcases f with _ | ⟨lo, hi⟩
  · rfl
  · simp [BandForm.bytes, wordBytes, readBand, present, word_of_bytes]

theorem readTiming_back : ReadsBack TimingForm.bytes readTiming := fun f l => by
  simp [TimingForm.bytes, wordBytes, readTiming, word_of_bytes]

theorem readReporting_back : ReadsBack Reporting.bytes readReporting := fun f l => by
  have hr : ratioOfByte f.ratio.byte = some f.ratio := by cases f.ratio <;> rfl
  have hp : positionOfByte f.position.byte = some f.position := by cases f.position <;> rfl
  simp [Reporting.bytes, readReporting, hr, hp]

theorem readSurvey_back : ReadsBack SurveyForm.bytes readSurvey := fun f l => by
  simp [SurveyForm.bytes, wordBytes, readSurvey, word_of_bytes]

theorem readObject_back : ReadsBack ObjectForm.bytes readObject := fun f l => by
  simp [ObjectForm.bytes, wordBytes, readObject, parseDefineObject, word_of_bytes]

theorem readOutput_back : ReadsBack OutputForm.bytes readOutput := fun f l => by
  simp [OutputForm.bytes, wordBytes, readOutput, parseDefineOutput, word_of_bytes]

/-- The bytes of an image are read back as the image. -/
theorem parseImage_bytes (m : Image) (hobjects : m.objects.length ≤ 255) (houtputs : m.outputs.length ≤ 255) :
    parseImage m.bytes = some m := by
  have hf : ∀ l, readFlag (flagByte m.autostart :: l) = some (m.autostart, l) := fun l => by
    simp [readFlag, flagOfByte_flagByte]
  have hx := readCounted_back readOutput_back m.outputs [] houtputs
  rw [List.append_nil] at hx
  unfold parseImage Image.bytes
  simp only [List.append_assoc, List.cons_append, List.nil_append, hf, Option.bind_some, readTable_back readGroup_back,
    readTable_back readBand_back, readTiming_back m.timing, readReporting_back m.reporting, readSurvey_back m.survey,
    readCounted_back readObject_back m.objects _ hobjects, hx, if_true]

/-- What a store copies is read back from its bytes (R172). -/
theorem parseImage_imageOf (s : State) (autostart : Bool) :
    parseImage (imageOf autostart s).bytes = some (imageOf autostart s) := by
  refine parseImage_bytes _ ?_ ?_
  · exact (List.length_filterMap_le _ _).trans (by simp)
  · exact (List.length_filterMap_le _ _).trans (by simp)

/-! ## An object of the image -/

/-- A byte is a number below 256 when it has that value. -/
theorem byte_eq_iff (b : Byte) (k : Nat) (h : k < 256) : b = BitVec.ofNat 8 k ↔ b.toNat = k := by
  constructor
  · rintro rfl
    simp
    omega
  · intro e
    apply BitVec.eq_of_toNat_eq
    simp [e]
    omega

theorem flag_none_iff (b : Byte) : flagOfByte b = none ↔ 1 < b.toNat := by
  have h0 := byte_eq_iff b 0 (by decide)
  have h1 := byte_eq_iff b 1 (by decide)
  unfold flagOfByte
  split_ifs with a c
  · simp
    have := h0.1 a
    omega
  · simp
    have := h1.1 c
    omega
  · simp
    rcases hb : b.toNat with _ | _ | k
    · exact absurd (h0.2 hb) a
    · exact absurd (h1.2 hb) c
    · omega

theorem flagOfByte_some {b : Byte} (h : b.toNat ≤ 1) : flagOfByte b = some (decide (b = 1)) := by
  have h0 := byte_eq_iff b 0 (by decide)
  have h1 := byte_eq_iff b 1 (by decide)
  unfold flagOfByte
  rcases hb : b.toNat with _ | _ | k
  · have := h0.2 hb
    subst this
    rfl
  · have := h1.2 hb
    subst this
    rfl
  · omega

/-- R18 test 3 in the words of the statements. -/
theorem kindOf_some {f : ObjectForm} (h : ObjectFits f) : f.kindOf = some (objectGiven f).kind := by
  obtain ⟨hk, hs, hp, -⟩ := h
  have h0 := byte_eq_iff f.kind 0 (by decide)
  have h1 := byte_eq_iff f.kind 1 (by decide)
  have h2 := byte_eq_iff f.kind 2 (by decide)
  unfold ObjectForm.kindOf objectGiven
  by_cases a : f.kind = 0
  · have := hs a
    have s0 := byte_eq_iff f.sense 0 (by decide)
    have s1 := byte_eq_iff f.sense 1 (by decide)
    by_cases b : f.sense = 0
    · simp [a, b]
    · have : f.sense = 1 := s1.2 (by have : f.sense.toNat ≠ 0 := fun e => b (s0.2 e); omega)
      simp [a, this]
  · by_cases b : f.kind = 1
    · have := hp b
      simp [b, this]
    · have c : f.kind = 2 := h2.2 (by
        have : f.kind.toNat ≠ 0 := fun e => a (h0.2 e)
        have : f.kind.toNat ≠ 1 := fun e => b (h1.2 e)
        omega)
      simp [c]

/-- A form that fails test 3 of R18. -/
theorem kindOf_none {f : ObjectForm} (h : ¬ ObjectFits f) : f.kindOf = none ∨ flagOfByte f.urgent = none := by
  rw [flag_none_iff]
  by_contra hc
  push Not at hc
  obtain ⟨hk, hu⟩ := hc
  apply h
  unfold ObjectForm.kindOf at hk
  have h0 := byte_eq_iff f.kind 0 (by decide)
  have h1 := byte_eq_iff f.kind 1 (by decide)
  have h2 := byte_eq_iff f.kind 2 (by decide)
  have s0 := byte_eq_iff f.sense 0 (by decide)
  have s1 := byte_eq_iff f.sense 1 (by decide)
  unfold ObjectFits
  split_ifs at hk with a b c d e g
  · have := h0.1 a
    have := s0.1 b
    simp [a, this]
    exact hu
  · have := h0.1 a
    have := s1.1 c
    simp [a, this]
    exact hu
  · exact absurd rfl hk
  · exact absurd rfl hk
  · have := h1.1 d
    simp [d, e]
    exact hu
  · have := h2.1 g
    simp [g]
    exact hu
  · exact absurd rfl hk

theorem objectNumber_of {b : Byte} {n : ObjId} (h : n.val = b.toNat) : objectNumber b = some n := by
  unfold objectNumber
  rw [dif_pos (by omega)]
  simp [← h]

/-- The definition of a form that fits is the one the statements give. -/
theorem definition_eq {f : ObjectForm} (h : ObjectFits f) :
    (f.definition (objectGiven f).kind (decide (f.urgent = 1))).cfg = objectGiven f := by
  obtain ⟨hk, hs, hp, hu⟩ := h
  have h0 := byte_eq_iff f.kind 0 (by decide)
  have h1 := byte_eq_iff f.kind 1 (by decide)
  have h2 := byte_eq_iff f.kind 2 (by decide)
  have hb : (objectGiven f).kind.byte = f.kind := by
    unfold objectGiven
    by_cases a : f.kind = 0
    · simp [a, Kind.byte]
    · by_cases b : f.kind = 1
      · simp [b, Kind.byte]
      · have c : f.kind = 2 := h2.2 (by
          have : f.kind.toNat ≠ 0 := fun e => a (h0.2 e)
          have : f.kind.toNat ≠ 1 := fun e => b (h1.2 e)
          omega)
        simp [c, Kind.byte]
  have ht : clamp 0 4095 f.tag.toNat = min f.tag.toNat 4095 := by simp [clamp]
  have hc0 : f.chatterLimit = 0 ↔ f.chatterLimit.toNat = 0 := byte_eq_iff f.chatterLimit 0 (by decide)
  have hcfg : ∀ k, (f.definition k (decide (f.urgent = 1))).cfg = { objectGiven f with
      kind := k
      transitMs := (f.definition k (decide (f.urgent = 1))).cfg.transitMs
      steadyMs := (f.definition k (decide (f.urgent = 1))).cfg.steadyMs
      service := (f.definition k (decide (f.urgent = 1))).cfg.service } := by
    intro k
    simp only [ObjectForm.definition, objectGiven, clampTag, clampField, ht, present, clampChatter, ObjDef.mk.injEq,
        true_and, and_true, hc0]
    rcases Bool.eq_false_or_eq_true (f.presence.getLsbD 1) with e | e <;>
      by_cases z : f.chatterLimit.toNat = 0 <;> simp only [e, z, if_true, if_false, Bool.false_eq_true]
  rw [hcfg]
  simp only [ObjectForm.definition, hb]
  unfold objectGiven ifUsed clampTransit clampSteady clampField present
  by_cases a : f.kind = 0
  · simp [a]
  · by_cases b : f.kind = 1
    · simp [b]
      split_ifs <;> simp
    · have c : f.kind = 2 := h2.2 (by
          have : f.kind.toNat ≠ 0 := fun e => a (h0.2 e)
          have : f.kind.toNat ≠ 1 := fun e => b (h1.2 e)
          omega)
      simp [c]
      split_ifs <;> simp

/-- The points of a definition. -/
theorem points_given (f : ObjectForm) : (objectGiven f).points = if f.kind = 1 then [pointNumber f.pointA,
    pointNumber f.pointB] else [pointNumber f.pointA] := by
  unfold ObjDef.points objectGiven
  by_cases a : f.kind = 0
  · simp [a]
  · by_cases b : f.kind = 1
    · simp [b]
    · simp only [if_neg a, if_neg b]

/-- An object is defined on its points (R12, R17). -/
theorem addObject_defines {f : ObjectForm} {n : ObjId} {s : State} (h : ObjectFits f) : DefinesObject f n s
    (addObject n (objectGiven f) s) := by
  have ne : f.kind = 1 → pointNumber f.pointA ≠ pointNumber f.pointB := by
    intro hk e
    apply h.2.2.1 hk
    exact BitVec.eq_of_toNat_eq (Fin.mk.inj e)
  unfold addObject
  rw [points_given]
  constructor
  · split_ifs <;> rfl
  · show (Vector.get _ _) = _
    split_ifs <;> simp [own, State.setPoint, State.setObject, freshObject, Obj.define]
  · intro m hm
    split_ifs <;> simp [own, State.setPoint, State.setObject, State.object, upd_get_ne _ _ hm]
  · intro p
    by_cases hk : f.kind = 1
    · have := ne hk
      simp only [hk, if_true, List.foldl_cons, List.foldl_nil, own, State.setPoint, State.setObject, State.point,
          upd_get, true_and]
      split_ifs <;> simp_all
    · simp only [hk, if_false, List.foldl_cons, List.foldl_nil, own, State.setPoint, State.setObject, State.point,
        upd_get, false_and, or_false]
      split_ifs <;> simp_all

/-- A definition that R18 refuses. -/
theorem defineObjectForm_refused {f s} (h : ObjectRefused s f) : ∃ c, defineObjectForm f s = .error c := by
  unfold defineObjectForm
  by_cases hf : ObjectFits f
  · have hk := kindOf_some hf
    have hu := flagOfByte_some hf.2.2.2
    simp only [hk, hu]
    rcases hn : objectNumber f.number with _ | n
    · exact ⟨_, rfl⟩
    · have hnv : n.val = f.number.toNat := by
        unfold objectNumber at hn
        split_ifs at hn
        cases hn
        rfl
      simp only [definition_eq hf]
      rw [if_pos]
      · exact ⟨_, rfl⟩
      rw [points_given]
      rcases h with h | h | ⟨m, hm, h⟩ | h | ⟨hk, h⟩
      · exact absurd hf h
      · omega
      · have : m = n := Fin.ext (hm.trans hnv.symm)
        subst this
        rcases ho : s.object m <;> simp_all
      · simp [State.owned]
        right
        split_ifs <;> simp [Option.isSome_iff_ne_none, h]
      · simp [hk, State.owned, Option.isSome_iff_ne_none, h]
  · rcases kindOf_none hf with h | h
    · simp [h]
    · rw [h]
      rcases f.kindOf <;> simp

/-- A definition that R18 takes. -/
theorem defineObjectForm_taken {f s} {n : ObjId} (h : ¬ ObjectRefused s f) (hn : n.val = f.number.toNat) :
    ∃ t m, defineObjectForm f s = .ok (t, m) ∧ DefinesObject f n s t := by
  unfold ObjectRefused at h
  push Not at h
  obtain ⟨hf, hnum, hno, hpa, hpb⟩ := h
  have hk := kindOf_some hf
  have hu := flagOfByte_some hf.2.2.2
  unfold defineObjectForm
  simp only [hk, hu, objectNumber_of hn, definition_eq hf]
  rw [if_neg]
  · exact ⟨_, _, rfl, addObject_defines hf⟩
  · rw [points_given]
    simp [hno n hn, State.owned]
    split_ifs with a
    · simp [hpa, hpb a]
    · simp [hpa]

/-! ## An output of the image -/

/-- The expected indications of R110. -/
theorem expectedOfByte_spec (b : Byte) : (NamesExpected b → ∃ v, expectedOfByte b = some v ∧ v.byte = b)
    ∧ (¬ NamesExpected b → expectedOfByte b = none) := by
  revert b
  unfold NamesExpected
  decide +kernel

theorem modeOfByte_spec (b : Byte) : ((modeOfByte b).isNone = true ↔ 1 < b.toNat)
    ∧ ((modeOfByte b).getD .pulseOnly = .latchable ↔ b = 1) := by
  revert b
  decide +kernel

theorem outputNumber_of {b : Byte} {i : OutId} (h : i.val = b.toNat) : outputNumber b = some i := by
  unfold outputNumber
  rw [dif_pos (by omega)]
  simp [← h]

theorem outputNumber_in {b : Byte} (h : b.toNat ≤ 63) : ∃ i : OutId, outputNumber b = some i ∧ i.val = b.toNat :=
  ⟨⟨b.toNat, by omega⟩, outputNumber_of rfl, rfl⟩

theorem objectNumber_in {b : Byte} (h : b.toNat ≤ 127) : ∃ n : ObjId, objectNumber b = some n ∧ n.val = b.toNat :=
  ⟨⟨b.toNat, by omega⟩, objectNumber_of rfl, rfl⟩

/-- Test 3 of R111 in the words of the statements. -/
theorem badForm_iff (f : OutputForm) : f.badForm = true ↔ 1 < f.mode.toNat ∨ (f.presence.getLsbD 0 = true ∧ f.partner
    = f.number)
    ∨ (f.presence.getLsbD 1 = true ∧ ¬ NamesExpected f.expected) := by
  have he : (expectedOfByte f.expected).isNone = true ↔ ¬ NamesExpected f.expected := by
    by_cases h : NamesExpected f.expected
    · obtain ⟨v, hv, -⟩ := (expectedOfByte_spec f.expected).1 h
      simp [hv, h]
    · simp [(expectedOfByte_spec f.expected).2 h, h]
  simp only [OutputForm.badForm, present, Bool.or_eq_true, Bool.and_eq_true, decide_eq_true_eq, he, (modeOfByte_spec
      f.mode).1, or_assoc]

/-- Test 4 of R111 in the words of the statements. -/
theorem outOfRange_iff (f : OutputForm) : f.outOfRange = true ↔ 63 < f.number.toNat
    ∨ (f.presence.getLsbD 0 = true ∧ 63 < f.partner.toNat) ∨ (f.presence.getLsbD 1 = true ∧ 127 < f.proving.toNat) := by
  simp only [OutputForm.outOfRange, present, Bool.or_eq_true, Bool.and_eq_true, decide_eq_true_eq, or_assoc]

/-- The definition of a form that passes is the one the statements give. -/
theorem outputGives_definition {f : OutputForm} (hb : f.badForm = false) (hr : f.outOfRange = false) : OutputGives f
    f.definition.cfg := by
  have hb' := mt (badForm_iff f).2 (by simp [hb])
  have hr' := mt (outOfRange_iff f).2 (by simp [hr])
  push Not at hb' hr'
  have ht : clamp 0 4095 f.tag.toNat = min f.tag.toNat 4095 := by simp [clamp]
  constructor
  · exact ht
  · exact (modeOfByte_spec f.mode).2
  · simp only [OutputForm.definition, present, clampPulse, clampField]
    by_cases h : f.presence.getLsbD 2 = true <;> simp only [h, if_true, if_false, Bool.false_eq_true]
  · simp only [OutputForm.definition, present, clampProving, clampField]
    by_cases h : f.presence.getLsbD 3 = true <;> simp only [h, if_true, if_false, Bool.false_eq_true]
  · simp only [OutputForm.definition, present]
    by_cases h : f.presence.getLsbD 0 = true
    · simp only [h, if_true]
      exact outputNumber_in (hr'.2.1 h)
    · simp only [h, if_false, Bool.false_eq_true]
  · simp only [OutputForm.definition, present]
    by_cases h : f.presence.getLsbD 1 = true
    · simp only [h, if_true]
      obtain ⟨n, hn, hv⟩ := objectNumber_in (hr'.2.2 h)
      obtain ⟨v, h1, h2⟩ := (expectedOfByte_spec f.expected).1 (hb'.2.2 h)
      exact ⟨n, v, hn, hv, h1, h2⟩
    · simp only [h, if_false, Bool.false_eq_true, and_self]

/-- The tests of R111 in the words of the statements. -/
theorem outputRefused_iff {f s} : OutputRefused s f ↔ f.badForm = true ∨ f.outOfRange = true ∨ ∃ i : OutId, i.val =
    f.number.toNat ∧ s.output i ≠ none := by
  rw [badForm_iff, outOfRange_iff]
  unfold OutputRefused
  tauto

/-- A definition that R111 refuses. -/
theorem defineOutputForm_refused {f s} (h : OutputRefused s f) : ∃ c, defineOutputForm f s = .error c := by
  rw [outputRefused_iff] at h
  unfold defineOutputForm
  split_ifs with h1 h2
  · exact ⟨_, rfl⟩
  · exact ⟨_, rfl⟩
  · rcases h with h | h | ⟨i, hi, ho⟩
    · exact absurd h h1
    · exact absurd h h2
    simp only [outputNumber_of hi]
    exact ⟨_, if_pos (Option.isSome_iff_ne_none.2 ho)⟩

/-- A definition that R111 takes. -/
theorem defineOutputForm_taken {f s} {i : OutId} (h : ¬ OutputRefused s f) (hi : i.val = f.number.toNat) :
    ∃ t m, defineOutputForm f s = .ok (t, m) ∧ DefinesOutput f i s t := by
  rw [outputRefused_iff] at h
  push Not at h
  obtain ⟨h1, h2, h3⟩ := h
  simp at h1 h2
  unfold defineOutputForm
  have h3' := h3 i hi
  simp only [h1, h2, outputNumber_of hi, h3', Option.isSome_none, if_false, Bool.false_eq_true]
  refine ⟨_, _, rfl, rfl, ⟨_, outputGives_definition h1 h2, ?_⟩, ?_, ?_⟩
  · simp [State.setProof, State.setOutput, State.output, Output.define, freshOutput]
  · simp [State.setProof, State.proof, Proof.reset]
  · intro j hj
    simp [State.setProof, State.setOutput, State.output, State.proof, upd_get_ne _ _ hj]

/-! ## Bands and settings of the image -/

theorem tableOf_bands (b : Vector BandForm 8) (i) : (b.map bandOf).get i = (b.get i).map fun x =>
    { min := clamp 1 999 x.1.toNat, max := clamp 1 999 x.2.toNat } := by
  simp
  rfl

/-- A band table is refused exactly when R62 refuses it. -/
theorem bandTable_refused {b : Vector BandForm 8} : BandsRefused b ↔ ∃ c, bandTable b = .error c := by
  have hi : bandsInverted (b.map bandOf) = true ↔ (∃ i lo hi, b.get i = some (lo, hi) ∧ clamp 1 999 hi.toNat < clamp
      1 999 lo.toNat) := by
    simp only [bandsInverted, List.any_eq_true, List.mem_finRange, true_and, tableOf_bands, Option.any_eq_true,
        decide_eq_true_eq]
    constructor
    · rintro ⟨i, y, hy, h⟩
      rcases hb : b.get i with _ | ⟨lo, hi⟩
      · simp [hb] at hy
      · simp [hb] at hy
        subst hy
        exact ⟨i, lo, hi, hb, h⟩
    · rintro ⟨i, lo, hi, hb, h⟩
      exact ⟨i, _, by rw [hb]; rfl, h⟩
  have ho : bandsOverlap (b.map bandOf) = true ↔ ∃ i j a x c d, i ≠ j ∧ b.get i = some (a, x) ∧ b.get j = some (c, d)
      ∧ clamp 1 999 a.toNat ≤ clamp 1 999 d.toNat ∧ clamp 1 999 c.toNat ≤ clamp 1 999 x.toNat := by
    simp only [bandsOverlap, List.any_eq_true, List.mem_finRange, true_and, tableOf_bands, Bool.and_eq_true,
        decide_eq_true_eq]
    constructor
    · rintro ⟨i, j, hij, h⟩
      rcases hb : b.get i with _ | ⟨a, x⟩
      · simp [hb] at h
      · rcases hc : b.get j with _ | ⟨c, d⟩
        · simp [hb, hc] at h
        · simp [hb, hc, Band.overlaps] at h
          exact ⟨i, j, a, x, c, d, by omega, hb, hc, h.1, h.2⟩
    · rintro ⟨i, j, a, x, c, d, hij, hb, hc, h1, h2⟩
      rcases lt_or_gt_of_ne hij with l | l
      · exact ⟨i, j, l, by simp [hb, hc, Band.overlaps, h1, h2]⟩
      · exact ⟨j, i, l, by simp [hb, hc, Band.overlaps, h1, h2]⟩
  unfold BandsRefused
  rw [← hi, ← ho]
  unfold bandTable
  simp only
  split_ifs with h1 h2 <;> simp [*]

/-- The settings an image leaves. -/
theorem settingsOf_apply (img : Image) (s : State) : SettingsOf img s (applySettings img (img.bands.map bandOf) s) := by
  constructor
  · rfl
  · intro g
    simp [applySettings, State.group, GroupForm.group, clampFilter, clampRefRes, clampField]
  · intro i
    exact tableOf_bands _ _
  · rfl
  · rfl
  · simp [applySettings, SurveyForm.apply, SurveySettings.ordered, SurveyForm.set, present]
    split_ifs <;> rfl
  · simp [applySettings, SurveyForm.apply, SurveySettings.ordered, SurveyForm.set, present]
    split_ifs <;> rfl
  · simp [applySettings, SurveyForm.apply, SurveySettings.ordered, SurveyForm.set, present, clampDegrade, clampClear,
      clampField]
    split_ifs <;> simp

end Sys2Proof.Laws
end

