-- ==== Sys2Proof/Laws/Queues.lean ====
section
/-! SUPPORT. The queues: which source holds an entry after a request or a removal, and that no source is held twice. -/

namespace Sys2Proof.Laws

open Sys2Proof.Machine Sys2Proof.Safety

theorem holds_iff {q : List Entry} {src : Source} : holds q src = true ↔ ∃ e ∈ q, e.source = src := by
  simp [holds]

theorem holds_false_iff {q : List Entry} {src : Source} : holds q src = false ↔ ∀ e ∈ q, e.source ≠ src := by
  simp [holds]

@[simp] theorem holds_append (q r : List Entry) (src : Source) : holds (q ++ r) src = (holds q src || holds r src) := by
  simp [holds]

@[simp] theorem holds_single (e : Entry) (src : Source) : holds [e] src = decide (e.source = src) := by
  simp [holds]

@[simp] theorem holds_nil (src : Source) : holds [] src = false := rfl

@[simp] theorem holds_without_same (q : List Entry) (src : Source) : holds (without q src) src = false := by
  simp [holds_false_iff, without]

theorem holds_without_ne (q : List Entry) {src k : Source} (h : k ≠ src) : holds (without q src) k = holds q k := by
  rw [Bool.eq_iff_iff, holds_iff, holds_iff]
  constructor
  · rintro ⟨e, he, rfl⟩
    exact ⟨e, (List.mem_filter.mp he).1, rfl⟩
  · rintro ⟨e, he, rfl⟩
    exact ⟨e, List.mem_filter.mpr ⟨he, by simpa using h⟩, rfl⟩

theorem without_eq_self {q : List Entry} {src : Source} (h : holds q src = false) : without q src = q := by
  rw [holds_false_iff] at h
  exact List.filter_eq_self.mpr fun e he => by simpa using h e he

/-- An entry found for a source is of that source. -/
theorem entryOf_some {q : List Entry} {src : Source} {e : Entry} (h : entryOf q src = some e) :
    e ∈ q ∧ e.source = src :=
  ⟨List.mem_of_find?_eq_some h, by simpa using List.find?_some h⟩

theorem entryOf_none {q : List Entry} {src : Source} (h : entryOf q src = none) : holds q src = false := by
  rw [holds_false_iff]
  intro e he
  simpa using List.find?_eq_none.mp h e he

/-! ## Requests -/

/-- A request at an entry in the urgent queue moves nothing (R93). -/
theorem request_of_urgent {src : Source} {s : State} (c : ReportClass) (h : holds s.urgent src = true) :
    request src c s = s := by
  simp [request, h]

/-- Other sources stand after a request where they stood. -/
theorem request_other {src k : Source} (h : k ≠ src) (c : ReportClass) (s : State) :
    holds (request src c s).urgent k = holds s.urgent k ∧ holds (request src c s).routine k = holds s.routine k := by
  unfold request
  split
  · exact ⟨rfl, rfl⟩
  · split
    · rename_i e he
      have := (entryOf_some he).2
      simp [holds_without_ne _ h, this, Ne.symm h]
    · exact ⟨rfl, rfl⟩
    · simp [Ne.symm h]
    · simp [Ne.symm h]

/-- After a request the source holds an entry, and in the urgent queue where the request was urgent. -/
theorem request_self (src : Source) (c : ReportClass) (s : State) :
    (holds (request src c s).urgent src || holds (request src c s).routine src) = true
      ∧ (c = .urgent → holds (request src c s).urgent src = true) := by
  unfold request
  split
  · rename_i h; simp [h]
  · split
    · rename_i e he; simp [(entryOf_some he).2]
    · rename_i e he
      refine ⟨?_, by simp⟩
      simp only [Bool.or_eq_true]
      exact Or.inr (holds_iff.mpr ⟨e, (entryOf_some he).1, (entryOf_some he).2⟩)
    · simp
    · simp

theorem sources_without (q : List Entry) (src : Source) :
    (without q src).map Entry.source = (q.map Entry.source).filter fun k => decide (k ≠ src) := by
  simp [without, List.filter_map, Function.comp_def]

/-- A property of entries that the requested source has, whatever its time, is kept by a request. -/
theorem request_all {P : Source → Prop} {src : Source} (hsrc : P src) (c : ReportClass) {s : State}
    (h : ∀ e ∈ s.urgent ++ s.routine, P e.source) :
    ∀ e ∈ (request src c s).urgent ++ (request src c s).routine, P e.source := by
  intro e he
  by_cases hk : e.source = src
  · rw [hk]; exact hsrc
  · have hh : (holds (request src c s).urgent e.source || holds (request src c s).routine e.source) = true := by
      rcases List.mem_append.mp he with he | he
      · simp [holds_iff.mpr ⟨e, he, rfl⟩]
      · simp [holds_iff.mpr ⟨e, he, rfl⟩]
    obtain ⟨h1, h2⟩ := request_other hk c s
    rw [h1, h2, ← holds_append, holds_iff] at hh
    obtain ⟨f, hf, hfe⟩ := hh
    rw [← hfe]
    exact h f hf

/-- A request keeps each source at most once in the two queues (R92). -/
theorem request_eachSourceOnce (src : Source) (c : ReportClass) {s : State} (h : EachSourceOnce s) :
    EachSourceOnce (request src c s) := by
  unfold request
  split
  · exact h
  · rename_i hu
    have hu' : ∀ e ∈ s.urgent, e.source ≠ src := holds_false_iff.mp (by simpa using hu)
    unfold EachSourceOnce at h ⊢
    simp only [List.map_append, List.nodup_append, List.mem_map] at h
    obtain ⟨h1, h2, h3⟩ := h
    split
    · rename_i e he
      obtain ⟨hm, hs⟩ := entryOf_some he
      simp only [List.map_append, List.nodup_append, List.mem_map, List.mem_append, List.map_cons, List.map_nil,
        sources_without, List.mem_filter, List.mem_cons, List.not_mem_nil, or_false]
      refine ⟨⟨h1, by simp, ?_⟩, h2.filter _, ?_⟩
      · rintro a ⟨x, hx, rfl⟩ b rfl
        rw [hs]; exact hu' x hx
      · rintro a (⟨x, hx, rfl⟩ | rfl) b ⟨hb, hne⟩
        · obtain ⟨y, hy, rfl⟩ := hb
          exact h3 _ ⟨x, hx, rfl⟩ _ ⟨y, hy, rfl⟩
        · rw [hs]; simpa using (Ne.symm (by simpa using hne))
    · simp only [List.map_append, List.nodup_append, List.mem_map]
      exact ⟨h1, h2, h3⟩
    · rename_i he
      have hr := holds_false_iff.mp (entryOf_none he)
      simp only [List.map_append, List.nodup_append, List.mem_map, List.mem_append, List.map_cons, List.map_nil,
        List.mem_cons, List.not_mem_nil, or_false]
      refine ⟨⟨h1, by simp, ?_⟩, h2, ?_⟩
      · rintro a ⟨x, hx, rfl⟩ b rfl; exact hu' x hx
      · rintro a (⟨x, hx, rfl⟩ | rfl) b ⟨y, hy, rfl⟩
        · exact h3 _ ⟨x, hx, rfl⟩ _ ⟨y, hy, rfl⟩
        · exact Ne.symm (hr y hy)
    · rename_i he
      have hr := holds_false_iff.mp (entryOf_none he)
      simp only [List.map_append, List.nodup_append, List.mem_map, List.mem_append, List.map_cons, List.map_nil,
        List.mem_cons, List.not_mem_nil, or_false]
      refine ⟨h1, ⟨h2, by simp, ?_⟩, ?_⟩
      · rintro a ⟨x, hx, rfl⟩ b rfl; exact hr x hx
      · rintro a ⟨x, hx, rfl⟩ b (⟨y, hy, rfl⟩ | rfl)
        · exact h3 _ ⟨x, hx, rfl⟩ _ ⟨y, hy, rfl⟩
        · exact hu' x hx

/-- A removal keeps each source at most once (R92). -/
theorem removeEntry_eachSourceOnce (src : Source) {s : State} (h : EachSourceOnce s) :
    EachSourceOnce (removeEntry src s) := by
  unfold EachSourceOnce at h ⊢
  rw [removeEntry_urgent, removeEntry_routine]
  refine h.sublist (List.Sublist.map _ ?_)
  exact List.Sublist.append List.filter_sublist List.filter_sublist

end Sys2Proof.Laws
end

