-- ==== Sys2Proof/Laws/Messages.lean ====
section
/-! SUPPORT. A control message at a module that takes it: what the receipt of its frame leaves alone, and that it is
executed and answered. -/

namespace Sys2Proof.Laws

open Sys2Proof.Machine Sys2Proof.Safety

variable (s : State)

/-! ## The receipt of a good frame -/

/-- The fields the receipt of a frame can write are six. -/
theorem received_eq : ∃ u r d q, received s =
    { s with rx := { s.rx with phase := .hunt, kept := [] }, goodFrame := true, silenceDeadline := d, deskSilent := q,
             urgent := u, routine := r } := by
  unfold received frameReceived
  dsimp only
  split
  · split
    · unfold request
      repeat' split
      all_goals exact ⟨_, _, _, _, rfl⟩
    · exact ⟨_, _, _, _, rfl⟩
  · exact ⟨_, _, _, _, rfl⟩

@[simp] theorem received_rx : (received s).rx = { s.rx with phase := .hunt, kept := [] } := by
  obtain ⟨_, _, _, _, h⟩ := received_eq s; rw [h]

@[simp] theorem received_goodFrame : (received s).goodFrame = true := by
  obtain ⟨_, _, _, _, h⟩ := received_eq s; rw [h]

@[simp] theorem received_pending : (received s).pending = s.pending := by
  obtain ⟨_, _, _, _, h⟩ := received_eq s; rw [h]

@[simp] theorem received_free : (received s).free = s.free := by
  obtain ⟨_, _, _, _, h⟩ := received_eq s; rw [h]

@[simp] theorem received_inReset : (received s).inReset = s.inReset := by
  obtain ⟨_, _, _, _, h⟩ := received_eq s; rw [h]

@[simp] theorem received_clock : (received s).clock = s.clock := by
  obtain ⟨_, _, _, _, h⟩ := received_eq s; rw [h]

@[simp] theorem received_baud : (received s).baud = s.baud := by
  obtain ⟨_, _, _, _, h⟩ := received_eq s; rw [h]

@[simp] theorem received_partState : (received s).partState = s.partState := by
  obtain ⟨_, _, _, _, h⟩ := received_eq s; rw [h]

@[simp] theorem received_imageStatus : (received s).imageStatus = s.imageStatus := by
  obtain ⟨_, _, _, _, h⟩ := received_eq s; rw [h]

@[simp] theorem received_store : (received s).store = s.store := by
  obtain ⟨_, _, _, _, h⟩ := received_eq s; rw [h]

@[simp] theorem received_memory : (received s).memory = s.memory := by
  obtain ⟨_, _, _, _, h⟩ := received_eq s; rw [h]

@[simp] theorem received_flashLit : (received s).flashLit = s.flashLit := by
  obtain ⟨_, _, _, _, h⟩ := received_eq s; rw [h]

@[simp] theorem received_flashStart : (received s).flashStart = s.flashStart := by
  obtain ⟨_, _, _, _, h⟩ := received_eq s; rw [h]

@[simp] theorem received_points : (received s).points = s.points := by
  obtain ⟨_, _, _, _, h⟩ := received_eq s; rw [h]

@[simp] theorem received_groups : (received s).groups = s.groups := by
  obtain ⟨_, _, _, _, h⟩ := received_eq s; rw [h]

@[simp] theorem received_timing : (received s).timing = s.timing := by
  obtain ⟨_, _, _, _, h⟩ := received_eq s; rw [h]

@[simp] theorem received_reporting : (received s).reporting = s.reporting := by
  obtain ⟨_, _, _, _, h⟩ := received_eq s; rw [h]

@[simp] theorem received_surveySet : (received s).surveySet = s.surveySet := by
  obtain ⟨_, _, _, _, h⟩ := received_eq s; rw [h]

@[simp] theorem received_bands : (received s).bands = s.bands := by
  obtain ⟨_, _, _, _, h⟩ := received_eq s; rw [h]

@[simp] theorem received_objects : (received s).objects = s.objects := by
  obtain ⟨_, _, _, _, h⟩ := received_eq s; rw [h]

@[simp] theorem received_window : (received s).window = s.window := by
  obtain ⟨_, _, _, _, h⟩ := received_eq s; rw [h]

@[simp] theorem received_urgentRun : (received s).urgentRun = s.urgentRun := by
  obtain ⟨_, _, _, _, h⟩ := received_eq s; rw [h]

@[simp] theorem received_snapshot : (received s).snapshot = s.snapshot := by
  obtain ⟨_, _, _, _, h⟩ := received_eq s; rw [h]

@[simp] theorem received_part : (received s).part = s.part := by
  obtain ⟨_, _, _, _, h⟩ := received_eq s; rw [h]

@[simp] theorem received_outputs : (received s).outputs = s.outputs := by
  obtain ⟨_, _, _, _, h⟩ := received_eq s; rw [h]

@[simp] theorem received_readback : (received s).readback = s.readback := by
  obtain ⟨_, _, _, _, h⟩ := received_eq s; rw [h]

@[simp] theorem received_proofs : (received s).proofs = s.proofs := by
  obtain ⟨_, _, _, _, h⟩ := received_eq s; rw [h]

@[simp] theorem received_nextAttempt : (received s).nextAttempt = s.nextAttempt := by
  obtain ⟨_, _, _, _, h⟩ := received_eq s; rw [h]

@[simp] theorem received_surveyCursor : (received s).surveyCursor = s.surveyCursor := by
  obtain ⟨_, _, _, _, h⟩ := received_eq s; rw [h]

@[simp] theorem received_measure : (received s).measure = s.measure := by
  obtain ⟨_, _, _, _, h⟩ := received_eq s; rw [h]

@[simp] theorem received_health : (received s).health = s.health := by
  obtain ⟨_, _, _, _, h⟩ := received_eq s; rw [h]

@[simp] theorem received_errors : (received s).errors = s.errors := by
  obtain ⟨_, _, _, _, h⟩ := received_eq s; rw [h]

@[simp] theorem received_answers : (received s).answers = s.answers := by
  obtain ⟨_, _, _, _, h⟩ := received_eq s; rw [h]

@[simp] theorem received_tx : (received s).tx = s.tx := by
  obtain ⟨_, _, _, _, h⟩ := received_eq s; rw [h]

@[simp] theorem received_point (p : PointId) : (received s).point p = s.point p :=
  point_of_points (received_points s) p

@[simp] theorem received_group (g : GroupId) : (received s).group g = s.group g :=
  group_of_groups (received_groups s) g

@[simp] theorem received_object (n : ObjId) : (received s).object n = s.object n :=
  object_of_objects (received_objects s) n

@[simp] theorem received_output (i : OutId) : (received s).output i = s.output i :=
  output_of_outputs (received_outputs s) i

@[simp] theorem received_proof (i : OutId) : (received s).proof i = s.proof i :=
  proof_of_proofs (received_proofs s) i

@[simp] theorem received_healthOf (p : PointId) : (received s).healthOf p = s.healthOf p :=
  healthOf_of_health (received_health s) p

@[simp] theorem received_readbackOn (i : OutId) : (received s).readbackOn i = s.readbackOn i := by
  simp [State.readbackOn]

@[simp] theorem received_driverOn (i : OutId) : (received s).driverOn i = s.driverOn i := by
  simp [State.driverOn]

/-- The urgent queue stands as it stood. -/
@[simp] theorem received_urgent : (received s).urgent = s.urgent := by
  unfold received frameReceived
  dsimp only
  split
  · split
    · unfold request
      split
      · rfl
      · split <;> first | rfl | contradiction
    · rfl
  · rfl

/-! ## Execution -/

/-- A ready module executes the message in the state its receipt leaves, and appends its one answer (R160). -/
theorem controlMessage_ready {s : State} (h : Ready s) (type : Byte) (m : Handler) (body : List Byte) :
    controlMessage type m body s = .next (schedule (withAnswer type (m body (received s)).2.code
      (m body (received s)).2.data (m body (received s)).1)) := by
  have hd : s.deaf = false := by simp [State.deaf, h.outOfReset, h.receiverOpen]
  have ha : ¬ Config.answerPlaces ≤ (frameReceived (hunt s)).answers.length := by
    have := received_answers s
    unfold received at this
    rw [this]
    have := h.room
    simp only [Config.answerPlaces]
    omega
  simp only [controlMessage, hd, Bool.false_eq_true, if_false, finish, receive, if_neg ha, execute, withAnswer, received]

end Sys2Proof.Laws
end

