-- ==== Sys2Proof/Laws/Steps.lean ====
section
/-! SUPPORT. What one step can do, said once: a property of states that each effect keeps is kept by every step. -/

namespace Sys2Proof.Laws

open Sys2Proof.Machine

/-- The control messages. -/
def handlers : List Handler :=
  [msgDefineObject, msgDefineOutput, msgSetBands, msgSetGroup, msgSetPartTiming, msgSetReporting, msgSetSurvey,
   msgAdjustObject, msgAdjustOutput, msgStart, msgSuspendObject, msgResumeObject, msgPulseOutput, msgLatchOutput]
  ++ [msgReleaseOutput, msgGroupPulse, msgReleaseAll, msgSnapshot, msgReadObject, msgReadOutput, msgReadPoints,
   msgReadHealth, msgReadClock, msgReadStatus, msgStoreImage, msgReset, msgUnknown]

theorem ite_mem {α : Type} {l : List α} {c : Prop} [Decidable c] {a b : α} (ha : a ∈ l) (hb : b ∈ l) :
    (if c then a else b) ∈ l := by
  split
  · exact ha
  · exact hb

theorem handlerOf_mem (type : Byte) : handlerOf type ∈ handlers := by
  unfold handlerOf
  repeat' apply ite_mem
  all_goals simp [handlers]

/-- The effects of the steps each keep the property. An effect of an event is asked for where the event is due. -/
structure Kept (I : State → Prop) : Prop where
  queue : ∀ s q, I s → I { s with pending := q }
  advance : ∀ s, I s → I (advance s)
  drawn : ∀ s, I s → I (drawn s)
  schedule : ∀ s, I s → I (schedule s)
  line : ∀ s x, I s → I { s with rx := x }
  counted : ∀ s x, x.length ≤ max s.errors.length 65535 → x.check ≤ max s.errors.check 65535 →
    x.abandoned ≤ max s.errors.abandoned 65535 → x.overruns ≤ max s.errors.overruns 65535 → I s → I { s with errors := x }
  good : ∀ s, I s → I (frameReceived s)
  message : ∀ h ∈ handlers, ∀ type body s, s.answers.length < 4 → I s → I (execute type h body s)
  rawTransition : ∀ p s, I s → I (rawTransition p s)
  acceptEdge : ∀ p s, edgeDue s p = true → I s → I (acceptEdge p s)
  settleIn : ∀ n s, settleDue s n = true → I s → I (settleIn n s)
  transitExpired : ∀ n s, transitDue s n = true → I s → I (transitExpired n s)
  conflictExpired : ∀ n s, conflictDue s n = true → I s → I (conflictExpired n s)
  steadyExpired : ∀ n s, steadyDue s n = true → I s → I (steadyExpired n s)
  boundary : ∀ s, boundaryDue s = true → I s → I (boundary s)
  endPulse : ∀ i s, pulseEndDue s i = true → I s → I (endPulse i s)
  setReadback : ∀ i on s, I s → I (setReadback i on s)
  driverFault : ∀ i s, driverFaultDue s i = true → I s → I (driverFault i s)
  proofEnds : ∀ i s, proofDue s i = true → I s → I (endProof i .unproven 0 s)
  silenceExpired : ∀ s, silenceDue s = true → I s → I (silenceExpired s)
  attempt : ∀ s, attemptDue s = true → I s → I (attempt s)
  judgeReference : ∀ m c s, referenceDue s = some m → I s → I (judgeReference m c s)
  completeMeasurement : ∀ m r c s, pointGateDue s = some (m, r) → I s → I (completeMeasurement m r c s)
  loadEnd : ∀ r s, s.partState = .loading → I s → I (loadEnd r s)
  storeEnded : ∀ g j s, s.store = some j → I s → I (storeEnded g j s)
  takeReset : ∀ s, I s → I (takeReset s)
  endReset : ∀ st c s, s.inReset = true → I s → I (endReset st c s)
  flash : ∀ s, I s → I (flash s)
  frameFinished : ∀ x s, s.tx = some x → I s → I (frameFinished x s)

variable {I : State → Prop}

theorem Kept.receive (k : Kept I) {h : Handler} (hm : h ∈ handlers) (type : Byte) (body : List Byte) {s : State}
    (hs : I s) : I (receive type h body s) := by
  unfold Machine.receive
  dsimp only
  have hg := k.good s hs
  split
  · exact k.counted _ _ (by simp) (by simp) (by simp) (by simp [satInc]) hg
  · rename_i hlt
    refine k.message h hm type body _ ?_ hg
    simpa [Config.answerPlaces] using hlt

theorem Kept.takeByte (k : Kept I) (b : Byte) (t : Time) {s : State} (hs : I s) : I (takeByte b t s).1 := by
  have hh : I (hunt s) := k.line s _ hs
  unfold Machine.takeByte
  split
  · exact hs
  · split
    · split
      · exact k.line s _ hs
      · exact hs
    · split
      · exact k.counted _ _ (by simp [satInc]) (by simp) (by simp) (by simp) hh
      · exact k.line s _ hs
    · dsimp only
      split
      · unfold completeFrame
        split
        · split
          · exact k.receive (handlerOf_mem _) _ _ hh
          · exact hh
        · exact k.counted _ _ (by simp) (by simp [satInc]) (by simp) (by simp) hh
      · exact k.line s _ hs

theorem Kept.takeBytes (k : Kept I) : ∀ (n : Nat) (l : List (Byte × Time)) {s : State}, I s → I (takeBytes n l s)
  | 0, _, _, hs => hs
  | n + 1, [], s, hs => by
    unfold Machine.takeBytes
    split
    · exact k.takeBytes n _ (k.counted _ _ (by simp) (by simp) (by simp [satInc]) (by simp) (k.line s _ hs))
    · exact hs
  | n + 1, x :: xs, s, hs => k.takeBytes n _ (k.schedule _ (k.takeByte x.1 x.2 hs))

theorem Kept.finish (k : Kept I) {u t : State} (hu : I u) (h : finish u = .next t) : I t := by
  simp only [Machine.finish, Host.Outcome.next.injEq] at h
  exact h ▸ k.schedule u hu

theorem Kept.whenDue (k : Kept I) {due : Bool} {f : State → State} {s t : State} (hs : I s)
    (hf : due = true → I (f s)) (h : whenDue due f s = .next t) : I t := by
  unfold Machine.whenDue at h
  split at h
  · rename_i hd
    exact k.finish (hf (by simp_all)) h
  · cases h; exact hs

theorem Kept.controlMessage (k : Kept I) {h : Handler} (hm : h ∈ handlers) {type : Byte} {body : List Byte}
    {s t : State} (hs : I s) (ht : controlMessage type h body s = .next t) : I t := by
  unfold Machine.controlMessage at ht
  split at ht
  · cases ht; exact hs
  · exact k.finish (k.receive hm _ _ (k.line s _ hs)) ht

/-- Every command keeps the property. -/
theorem Kept.exec (k : Kept I) (i : Instr) {s t : State} (hs : I s) (h : exec i s = .next t) : I t := by
  cases i <;> simp only [Machine.exec] at h
  case unknownType ty body =>
    unfold execUnknownType at h
    split at h
    · cases h; exact hs
    · exact k.controlMessage (by simp [handlers]) hs h
  case lengthError b => exact k.whenDue hs (fun _ => k.takeBytes _ _ hs) h
  case checkError b => exact k.whenDue hs (fun _ => k.takeBytes _ _ hs) h
  case frameAbandon => exact k.whenDue hs (fun _ => k.takeBytes _ _ hs) h
  case byteTaken b =>
    unfold execByteTaken at h
    split at h
    · cases h; exact hs
    · exact k.finish (k.takeBytes _ _ hs) h
  case rawTransition p => exact k.whenDue hs (fun _ => k.rawTransition p s hs) h
  case edgeAccept p => exact k.whenDue hs (fun d => k.acceptEdge p s d hs) h
  case settleInDeadline n => exact k.whenDue hs (fun d => k.settleIn n s d hs) h
  case transitDeadline n => exact k.whenDue hs (fun d => k.transitExpired n s d hs) h
  case conflictDeadline n => exact k.whenDue hs (fun d => k.conflictExpired n s d hs) h
  case steadyDeadline n => exact k.whenDue hs (fun d => k.steadyExpired n s d hs) h
  case chatterBoundary => exact k.whenDue hs (fun d => k.boundary s d hs) h
  case pulseEnd i => exact k.whenDue hs (fun d => k.endPulse i s d hs) h
  case readbackChange i on => exact k.finish (k.setReadback i on s hs) h
  case driverCheckFault i => exact k.whenDue hs (fun d => k.driverFault i s d hs) h
  case proofDeadline i => exact k.whenDue hs (fun d => k.proofEnds i s d hs) h
  case silenceDeadline => exact k.whenDue hs (fun d => k.silenceExpired s d hs) h
  case surveyAttempt => exact k.whenDue hs (fun d => k.attempt s d hs) h
  case referenceGateEnd c =>
    unfold execReferenceGateEnd at h
    split at h
    · rename_i m hm; exact k.whenDue hs (fun _ => k.judgeReference m _ s hm hs) h
    · cases h; exact hs
  case pointGateEnd c =>
    unfold execPointGateEnd at h
    split at h
    · rename_i m r hm; exact k.whenDue hs (fun _ => k.completeMeasurement m r c s hm hs) h
    · cases h; exact hs
  case imageLoadEnd r => exact k.whenDue hs (fun d => k.loadEnd r s (by simpa using d) hs) h
  case storeEnd g =>
    unfold execStoreEnd at h
    split at h
    · rename_i j hj; exact k.whenDue hs (fun _ => k.storeEnded g j s hj hs) h
    · cases h; exact hs
  case frameSent =>
    unfold execFrameSent at h
    split at h
    · rename_i x hx; exact k.whenDue hs (fun _ => k.frameFinished x s hx hs) h
    · cases h; exact hs
  case resetTaken => cases h; exact k.takeReset s hs
  case resetEnd st c =>
    unfold execResetEnd at h
    split at h
    · rename_i hr; cases h; exact k.endReset st c s hr hs
    · cases h; exact hs
  case lampFlash => exact k.whenDue hs (fun _ => k.flash s hs) h
  all_goals exact k.controlMessage (by simp [handlers]) hs h

theorem Kept.tick (k : Kept I) {s t : State} (hs : I s) (h : tick s = .next t) : I t := by
  unfold Machine.tick at h
  split at h
  · cases h; exact hs
  · split at h
    · cases h; exact k.advance s hs
    · exact k.exec _ (k.drawn s hs) h

/-- Every step keeps the property. -/
theorem Kept.step (k : Kept I) {s t : State} (hs : I s) (h : step s = .next t) : I t := by
  unfold Machine.step at h
  split at h
  · exact k.exec _ (k.queue s _ hs) h
  · exact k.tick hs h

end Sys2Proof.Laws
end

