-- ==== Sys2Proof/Tests/Slice0.lean ====
section
/-! SUPPORT. Tests of the model on small states: the checks of WellFormed, the worked figures of the spec, one step of
each family of commands, and for each statement a state and operands that meet its hypotheses. -/

namespace Sys2Proof.Tests

open Sys2Proof.Machine Sys2Proof.Safety

-- One theorem at a time: evaluated side by side they need more threads than the memory limit leaves.
set_option Elab.async false

/-! ## Helpers -/

/-- The test holds in the next state. -/
def nextHas (r : Result) (p : State → Bool) : Bool :=
  match r with
  | .next t => p t
  | _ => false

/-- The frame on the line. -/
def onLine (s : State) : List Byte :=
  match s.tx with
  | some x => x.frame.type :: x.frame.body
  | none => []

/-- A state with no definitions, in CONFIGURING. -/
def configuring : State := { State.reset with partState := .configuring }

/-- A state with no definitions, in RUNNING at clock 50,000. -/
def running : State :=
  { State.reset with partState := .running, clock := 50000, window := some { start := 30000, next := 50000 },
                     silenceDeadline := some 50000, nextAttempt := some 50000 }

/-- A definition on point 3. -/
def defOf (k : Kind) : ObjDef :=
  { kind := k, pointA := 3, tag := 7, urgent := false, transitMs := 400, chatterLimit := 12, steadyMs := 1500,
    service := 5 }

/-- Object 2 defined in a state, its record given. -/
def withObj (o : Obj) (s : State) : State := { o.cfg.points.foldl (own 2) s with objects := upd s.objects 2 (some o) }

/-- A SINGLE object with front sense, classified DROPPED. -/
def single : Obj :=
  { Obj.define (defOf (.single .front)) with evaluated := .shown .dropped, reported := .dropped, settled := some .dropped,
                                             opCount := 5 }

/-- A PAIR object on points 3 and 4 with an evaluated indication. -/
def pair (e : Evaluated) (origin : Option Rest) (r : PairRec) : Obj :=
  { Obj.define (defOf (.pair 4)) with evaluated := e, origin := origin, pair := r }

/-- The pair record of an object with nothing recorded. -/
def quietPair : PairRec := (Obj.define (defOf .coded)).pair

/-- A CODED object with an evaluated indication and a code record. -/
def coded (e : Indication) (c : CodeRec) : Obj := { Obj.define (defOf .coded) with evaluated := .shown e, code := c }

/-- The code record of an object with nothing recorded. -/
def emptyCode : CodeRec := (Obj.define (defOf .coded)).code

/-- A definition of an output. -/
def outDef (m : Mode) (partner : Option OutId) : OutDef :=
  { tag := 9, mode := m, partner := partner, proving := some 2, expected := some .picked, pulseMs := 500,
    provingMs := 8000 }

/-- An output in a state. -/
def outAt (m : Mode) (partner : Option OutId) (x : OutState) : Output :=
  { Output.define (outDef m partner) with state := x }

/-- Output 0 in a state, pulse only and without a partner, in RUNNING. -/
def pulseAt (x : OutState) : State := running.setOutput 0 (outAt .pulseOnly none x)

/-- Output 0 in a state, latchable and without a partner, in RUNNING. -/
def latchAt (x : OutState) : State := running.setOutput 0 (outAt .latchable none x)

/-- Outputs 0 and 1, exclusion partners in two states, in RUNNING. -/
def partnersAt (x y : OutState) : State :=
  (running.setOutput 0 (outAt .latchable (some 1) x)).setOutput 1 (outAt .latchable (some 0) y)

/-- A proof of output 0 in a phase. -/
def proofOf (phase : ProofPhase) (d : Option Time) : Proof :=
  { phase := phase, kind := some .pulse, start := 49000, object := some 2, expected := some .picked, deadline := d }

/-- The bytes of a short frame with a wrong check, kept. -/
def keptWrong : List (Byte × Time) := [(0xA5, 49990), (0x01, 49995), (0x24, 50000), (0x00, 50000)]

/-- The receiver in a phase with bytes kept, in RUNNING. -/
def receiving (phase : RxPhase) (kept : List (Byte × Time)) : State :=
  { running with rx := { phase := phase, kept := kept, closed := false } }

/-- The bytes of a Read Clock frame. -/
def readClockBytes : List Byte := Frame.bytes { type := 0x24, body := [] }

/-- The bytes, all arrived at one count. -/
def arrived (bytes : List Byte) : List (Byte × Time) := bytes.map fun b => (b, 50000)

/-- The configuration image of the settings at reset, with no definitions. -/
def blankImage : Image := imageOf false State.reset

/-- A state that takes messages is ready in its part state. -/
theorem ready_of (s : State) (h : (!s.inReset && !s.rx.closed && decide (s.answers.length < 4)) = true) : Ready s := by
  simp only [Bool.and_eq_true, Bool.not_eq_true', decide_eq_true_eq] at h
  exact ⟨h.1.1, h.1.2, h.2⟩

/-! ## WellFormed -/

theorem test_wellFormed_body : (Instr.defineObject (List.replicate 249 0)).wellFormed = true
    ∧ (Instr.defineObject (List.replicate 250 0)).wellFormed = false := by decide +kernel

theorem test_wellFormed_unknownType : (Instr.unknownType 0x0D []).wellFormed = true
    ∧ (Instr.unknownType 0x01 []).wellFormed = false
    ∧ (Instr.unknownType 0x0D (List.replicate 250 0)).wellFormed = false := by decide +kernel

theorem test_wellFormed_lengthError : (Instr.lengthError 0).wellFormed = true ∧ (Instr.lengthError 251).wellFormed = true
    ∧ (Instr.lengthError 1).wellFormed = false ∧ (Instr.lengthError 250).wellFormed = false := by decide +kernel

theorem test_wellFormed_event : (Instr.rawTransition 255).wellFormed = true := by decide +kernel

/-! ## Worked figures of the spec -/

theorem test_check_value : crc [0x31, 0x32, 0x33, 0x34, 0x35, 0x36, 0x37, 0x38, 0x39] = 0x29B1#16 := by decide +kernel

theorem test_code_rates : codeRate [5010, 4995, 5003, 4990] = 120 ∧ codeRate [3340, 3330, 3336, 3326] = 180
    ∧ codeRate [8000, 8010, 7990, 8004] = 75 ∧ codeRate [40, 40, 40, 40] = 999 := by decide +kernel

theorem test_loop_resistance : loopResistance 1000 5000 40000 = 125 ∧ loopResistance 1000 5000 9000 = 556
    ∧ loopResistance 1000 5000 20000 = 250 ∧ loopResistance 10000 65535 3 = 65535
    ∧ loopResistance 1000 5000 0 = 65535 := by decide +kernel

theorem test_wrapped_filter_run : interval 4294967280#32 24#32 = 40 ∧ interval 4294967280#32 1200#32 = 1216 := by
  decide +kernel

theorem test_no_word_spells_a_command : decodeTableWord 8 0x01 = none
    ∧ State.reset.withFetchWord 8 0x01 = State.reset := by decide +kernel

/-! ## One step of each family -/

theorem test_defineObject : nextHas (exec (.defineObject [2, 1, 3, 4, 0, 0, 7, 1, 0, 0, 0, 0, 0, 0, 0, 0]) configuring)
    (fun t => decide (onLine t = [0x86, 0x01, 0x00] ∧ (t.point 4).owner = some 2
      ∧ t.object 2 = some (Obj.define { kind := .pair 4, pointA := 3, tag := 7, urgent := true, transitMs := 400,
                                        chatterLimit := 12, steadyMs := 0, service := 0 }))) = true := by decide +kernel

theorem test_defineObject_refused :
    nextHas (exec (.defineObject [2, 1, 3, 3, 0, 0, 7, 1, 0, 0, 0, 0, 0, 0, 0, 0]) configuring)
      (fun t => decide (onLine t = [0x86, 0x01, AnswerCode.badForm.byte] ∧ t.objects = configuring.objects)) = true := by
  decide +kernel

theorem test_defineOutput : nextHas (exec (.defineOutput [0, 0, 9, 1, 3, 1, 2, 1, 0, 0, 0, 0]) configuring)
    (fun t => decide (onLine t = [0x86, 0x02, 0x00] ∧ t.output 0 = some (outAt .latchable (some 1) .off))) = true := by
  decide +kernel

theorem test_setBands : nextHas (exec (.setBands ([1, 0, 70, 0, 80] ++ List.replicate 35 0)) configuring)
    (fun t => decide (t.bands.get 0 = some { min := 70, max := 80 } ∧ t.bands.get 1 = none)) = true := by decide +kernel

theorem test_start : nextHas (exec (.start []) (withObj (Obj.define (defOf .coded)) configuring))
    (fun t => decide (t.partState = .running ∧ (t.object 2).map Obj.settleDeadline = some (some 10000))) = true := by
  decide +kernel

theorem test_setGroup : nextHas (exec (.setGroup [15, 60, 1, 0, 200]) running)
    (fun t => decide (onLine t = [0x86, 0x04, 0x01]
      ∧ t.group 15 = { filterMs := 50, survey := true, refRes := 200, refFault := false })) = true := by decide +kernel

theorem test_adjustObject : nextHas (exec (.adjustObject [2, 8, 0, 0, 0, 0, 0, 0, 4, 0]) (withObj single running))
    (fun t => decide ((t.object 2).map (fun o => (o.serviceLatch, o.events)) = some (true, Event.serviceDue.bit))) = true := by
  decide +kernel

theorem test_suspendObject : nextHas (exec (.suspendObject [2]) (withObj single running))
    (fun t => decide ((t.object 2).map Obj.admission = some .suspended
      ∧ t.routine = [{ source := .object 2, created := 50000 }])) = true := by decide +kernel

theorem test_edge_commits : nextHas (exec (.edgeAccept 3) ((withObj single running).setPoint 3
      { raw := .made, filtered := .opn, runStart := 49960, runFilter := 40, lastEdge := 0, glitch := 0, owner := some 2 }))
    (fun t => decide ((t.object 2).map (fun o => (o.reported, o.lastChange, o.opCount)) = some (.picked, 49960, 6))) = true := by
  decide +kernel

theorem test_rawTransition : nextHas (exec (.rawTransition 255) running)
    (fun t => decide (t.point 255 = { raw := .made, filtered := .opn, runStart := 50000, runFilter := 40, lastEdge := 0,
                                      glitch := 0, owner := none })) = true := by decide +kernel

theorem test_pulseOutput : nextHas (exec (.pulseOutput [0]) (pulseAt .off))
    (fun t => decide ((t.output 0).map Output.state = some (.pulsing 55000) ∧ onLine t = [0x86, 0x10, 0x00]
      ∧ (t.proof 0).phase = .awaitingPulseEnd)) = true := by decide +kernel

theorem test_pulse_watches : nextHas (exec (.pulseOutput [0]) (withObj single (pulseAt .off)))
    (fun t => decide ((t.proof 0).deadline = some 130000)) = true := by decide +kernel

theorem test_excluded : nextHas (exec (.latchOutput [0]) (partnersAt .off .latched))
    (fun t => decide (onLine t = [0x86, 0x11, AnswerCode.excluded.byte])) = true := by decide +kernel

theorem test_releaseOutput : nextHas (exec (.releaseOutput [0]) (latchAt .latched))
    (fun t => decide ((t.output 0).map Output.state = some .off)) = true := by decide +kernel

theorem test_groupPulse : nextHas (exec (.groupPulse [2, 0, 1, 0, 0, 0, 100])
      ((pulseAt .off).setOutput 1 (outAt .pulseOnly none .off)))
    (fun t => decide ((t.output 1).map Output.state = some (.pulsing 51000))) = true := by decide +kernel

theorem test_silence_releases : nextHas (exec .silenceDeadline (latchAt .latched))
    (fun t => decide ((t.output 0).map Output.state = some .off ∧ t.deskSilent = true)) = true := by decide +kernel

theorem test_driverCheckFault : nextHas (exec (.driverCheckFault 0)
      (running.setOutput 0 { outAt .pulseOnly none .off with mismatch := some 49800 }))
    (fun t => decide ((t.output 0).map Output.state = some .faulted)) = true := by decide +kernel

theorem test_chatterBoundary : nextHas (exec .chatterBoundary (withObj { single with windowCount := 9 } running))
    (fun t => decide (t.window = some { start := 50000, next := 70000 } ∧ (t.object 2).map Obj.windowCount = some 0)) = true := by
  decide +kernel

theorem test_readClock : nextHas (exec (.readClock []) running)
    (fun t => decide (onLine t = [0x86, 0x24, 0x00, 0x00, 0x00, 0xC3, 0x50])) = true := by decide +kernel

theorem test_readPoints_parts : nextHas (exec (.readPoints [0xF0, 64]) running)
    (fun t => decide (t.tx.map (fun x => (x.frame.body.take 6, x.parts.length)) = some ([0x22, 0x00, 1, 3, 0xF0, 22], 2))) = true := by
  decide +kernel

theorem test_unknownType : nextHas (exec (.unknownType 0x0D []) running)
    (fun t => decide (onLine t = [0x86, 0x0D, AnswerCode.unknownType.byte])) = true := by decide +kernel

theorem test_bytes_make_a_message :
    (match takeAll (Frame.bytes { type := 0x24, body := [] }) running with
      | .next t => decide (onLine t = [0x86, 0x24, 0x00, 0x00, 0x00, 0xC3, 0x50])
      | _ => false) = true := by decide +kernel

theorem test_snapshot_begins : nextHas (exec (.snapshot []) { running with tx := none })
    (fun t => decide (onLine t = [0x86, 0x18, 0x00] ∧ t.snapshot.isSome = true)) = true := by decide +kernel

theorem test_surveyAttempt : nextHas (exec .surveyAttempt running)
    (fun t => decide (t.nextAttempt = some 60000 ∧ t.measure = none)) = true := by decide +kernel

theorem test_storeImage : nextHas (exec (.storeImage [0]) running)
    (fun t => decide (t.store.map StoreJob.start = some 50000)) = true := by decide +kernel

/-- What a store copies is what the load finds, the object and the output defined again, with the parameters a SINGLE
object does not use held as 0 (log 25). -/
theorem test_image_loads :
    let s : State := (withObj single running).setOutput 0 (outAt .latchable (some 1) .off);
    let t : State := { State.reset with memory := ConfigMemory.whole (imageOf true s).bytes };
    (loadedImage t).map (fun x => (x.1.autostart, x.2.object 2, x.2.output 0, (x.2.point 3).owner))
      = some (true, some (Obj.define { single.cfg with transitMs := 0, steadyMs := 0 }),
          some (outAt .latchable (some 1) .off), some 2) := by decide +kernel

/-- Five frames inside a frame that is discarded: the first answer is on the line before the fifth is executed. -/
theorem test_pass_of_five_frames :
    (let bytes := [0xA5, 23] ++ (List.replicate 5 readClockBytes).flatten;
      nextHas (exec (.checkError (bytes.getLastD 0)) { running with rx :=
          { phase := .collect, kept := arrived bytes.dropLast, closed := false } })
        (fun t => decide (t.answers.length = 4 ∧ t.tx.isSome = true ∧ t.errors.overruns = 0 ∧ t.errors.check = 1))) = true := by
  decide +kernel

theorem test_imageLoadEnd : nextHas (exec (.imageLoadEnd true) State.reset)
    (fun t => decide (t.partState = .configuring ∧ t.imageStatus = .noImage)) = true := by decide +kernel

theorem test_reset_ends : nextHas (exec (.resetEnd 3 8) { State.reset with inReset := true })
    (fun t => decide (t.baud = .b115200 ∧ (t.point 3).raw = .made ∧ (t.point 2).raw = .opn)) = true := by decide +kernel

/-! ## A state and operands for the hypotheses of each statement -/

/-- A state of START: no definitions, so every test passes. -/
theorem ready_configuring : ReadyConfiguring configuring := ⟨ready_of _ (by decide +kernel), rfl⟩

theorem ready_running : ReadyRunning running := ⟨ready_of _ (by decide +kernel), rfl⟩

theorem ready_loaded : ReadyLoaded running := ⟨ready_of _ (by decide +kernel), by decide⟩

/-- A state that takes messages in RUNNING. -/
theorem runs (s : State) (h : (!s.inReset && !s.rx.closed && decide (s.answers.length < 4)
    && decide (s.partState = .running)) = true) : ReadyRunning s := by
  simp only [Bool.and_eq_true, decide_eq_true_eq] at h
  exact ⟨ready_of s (by simp [h.1]), h.2⟩

/-- In reset; out of reset with nothing due; in RUNNING with events due; the longest length of the comparison, reached at
its count and not before. -/
theorem test_witness_EmptyQueueStep :
    ({ State.reset with inReset := true } : State).pending = []
    ∧ State.reset.pending = [] ∧ State.reset.inReset = false ∧ dueEvents State.reset = []
    ∧ running.pending = [] ∧ running.inReset = false ∧ dueEvents running ≠ []
    ∧ .silenceDeadline ∈ dueEvents running
    ∧ 2147483647 < 2147483648 ∧ reached (after 5#32 2147483647) 2147483652#32 = true
    ∧ reached (after 5#32 2147483647) 2147483651#32 = false := by decide +kernel

theorem test_witness_ResetTakenAndEnded : ({ State.reset with inReset := true } : State).inReset = true := rfl

/-- Nothing is due right after reset, and a part in RUNNING is not loading; a frame that is not complete, one whose check
agrees, and a gap of 50 units. -/
theorem test_witness_NothingDueNothingDone :
    ((let s : State := { State.reset with inReset := true }; s.inReset = true)
      ∧ (let s : State := { running with rx := { Receiver.reset with closed := true } }; s.rx.closed = true)
      ∧ (0x31 : Byte) ∈ controlTypes ∧ (1 ≤ (250 : Byte).toNat ∧ (250 : Byte).toNat ≤ 250) ∧ running.partState ≠ .loading
      ∧ (let s := receiving .collect (keptWrong.take 3);
        s.rx.phase = .collect ∧ s.rx.kept.map Prod.fst ++ [0x00] = 0xA5 :: 0x01 :: [0x24, 0x00] ∧ 2 < (0x01 : Byte).toNat + 2)
      ∧ ((readClockBytes.take 4 = [0xA5, 0x01, 0x24] ++ [] ++ [readClockBytes.getD 3 0])
        ∧ (0x01 : Byte).toNat = ([] : List Byte).length + 1
        ∧ readClockBytes.getD 3 0 ++ readClockBytes.getD 4 0 = crc ([0x01, 0x24] ++ []))
      ∧ (let s := receiving .length [(0xA5, 49950)];
        s.rx.phase ≠ .hunt ∧ s.rx.kept.getLast? = some (0xA5, 49950) ∧ interval 49950 s.clock < 51))
    ∧ (let s := State.reset;
      s.rx.phase ≠ .length ∧ s.rx.phase ≠ .collect ∧ s.rx.phase = .hunt ∧ ¬ EdgeDue s 255
      ∧ ¬ SettleDue s 127 ∧ ¬ TransitDue s 127 ∧ ¬ ConflictDue s 127 ∧ ¬ SteadyDue s 127 ∧ ¬ BoundaryDue s
      ∧ ¬ PulseEndDue s 63 ∧ ¬ DriverFaultDue s 63 ∧ ¬ ProofDue s 63 ∧ ¬ SilenceDue s ∧ ¬ AttemptDue s
      ∧ ¬ ReferenceDue s ∧ ¬ PointGateDue s ∧ s.store = none ∧ ¬ FlashDue s ∧ s.tx = none ∧ s.inReset = false) := by
  refine ⟨by decide +kernel, ?_⟩
  simp only [← edgeDue_iff, ← settleDue_iff, ← transitDue_iff, ← conflictDue_iff, ← steadyDue_iff, ← boundaryDue_iff,
    ← pulseEndDue_iff, ← driverFaultDue_iff, ← proofDue_iff, ← silenceDue_iff, ← attemptDue_iff, ← referenceDue_iff,
    ← pointGateDue_iff, ← flashDue_iff]
  decide +kernel

/-- An unknown type; a message in LOADING, one not allowed in CONFIGURING, and one with a body too short. -/
theorem test_witness_TypeThenPartStateThenLength :
    Ready State.reset ∧ (0x0D : Byte) ∉ controlTypes
    ∧ (configuringRow 0x01 .defineObject 16 ∈ messageTable
      ∧ (configuringRow 0x01 .defineObject 16).allowed State.reset.partState = false
      ∧ (configuringRow 0x01 .defineObject 16).allowed running.partState = false)
    ∧ ReadyRunning running ∧ runningRow 0x18 .snapshot 0 ∈ messageTable
    ∧ (runningRow 0x18 .snapshot 0).allowed running.partState = true
    ∧ (runningRow 0x18 .snapshot 0).free running ∧ ([0] : List Byte).length ≠ 0 := by
  refine ⟨ready_of _ (by decide +kernel), by decide, ⟨by simp [messageTable], rfl, rfl⟩, ready_running, ?_, rfl, ?_, by decide⟩
  · simp [messageTable]
  · exact ⟨fun _ => rfl, fun h => absurd h (by decide)⟩

/-- Three answers and four answers waiting. -/
theorem test_witness_GoodFrameExecutedOnce :
    let a : Answer := { echo := 0x24, code := .accepted, data := [] };
    let three : State := { running with answers := [a, a, a] };
    let four : State := { running with answers := [a, a, a, a] };
    (three.inReset = false ∧ three.rx.closed = false ∧ three.answers.length < 4)
    ∧ (four.inReset = false ∧ four.rx.closed = false ∧ 4 ≤ four.answers.length)
    ∧ everyRow 0x24 .readClock 0 ∈ messageTable ∧ (0x0D : Byte) ∉ controlTypes := by
  refine ⟨by decide, by decide, by simp [messageTable], by decide⟩

/-- A hunting receiver with nothing waiting, and with a frame on the line; the longest body. -/
theorem test_witness_FrameBytesExecuteTheMessage :
    let busy : State := { running with tx := some { frame := { type := 0x85, body := [] }, parts := [], start := 0, isReset := false } };
    (Ready running ∧ running.rx.phase = .hunt ∧ running.waiting = false)
    ∧ (Ready busy ∧ busy.rx.phase = .hunt ∧ busy.tx.isSome = true)
    ∧ everyRow 0x24 .readClock 0 ∈ messageTable ∧ (List.replicate 249 (0 : Byte)).length ≤ 249 := by
  refine ⟨⟨ready_running.1, rfl, by decide +kernel⟩, ⟨ready_of _ (by decide +kernel), rfl, rfl⟩, by simp [messageTable],
    by decide +kernel⟩

/-- A bad LEN byte at both ends; a check error; a gap of exactly 51 units. -/
theorem test_witness_ReceiverPassCompletes :
    (receiving .length [(0xA5, 49999)]).rx.phase = .length ∧ badLen 0 = true ∧ badLen 251 = true
    ∧ (let s := receiving .collect keptWrong;
      s.inReset = false ∧ s.rx.closed = false ∧ s.rx.phase = .collect
      ∧ frameComplete (s.rx.kept ++ [(0x00, s.clock)]) = true ∧ checkGood (s.rx.kept ++ [(0x00, s.clock)]) = false)
    ∧ (let s := receiving .length [(0xA5, 49949)];
      s.rx.phase ≠ .hunt ∧ s.rx.kept.getLast? = some (0xA5, 49949) ∧ 51 ≤ interval 49949 s.clock) := by decide +kernel

/-- LEN at 1 and 250, and outside; a frame one byte short and a complete one. -/
theorem test_witness_ReceiverTakesOneByte :
    running.rx.closed = false ∧ running.rx.phase = .hunt ∧ (0x5A : Byte) ≠ 0xA5
    ∧ (receiving .length [(0xA5, 49999)]).rx.phase = .length
    ∧ (1 ≤ (1 : Byte).toNat ∧ (250 : Byte).toNat ≤ 250) ∧ ¬ (1 ≤ (0 : Byte).toNat) ∧ ¬ ((251 : Byte).toNat ≤ 250)
    ∧ (keptWrong.take 3 = (0xA5, 49990) :: (0x01, 49995) :: [(0x24, 50000)] ∧ 1 + 1 < (0x01 : Byte).toNat + 2)
    ∧ keptWrong.map Prod.fst = [0xA5, 0x01, 0x24] ++ [] ++ [0x00] ∧ (0x01 : Byte).toNat = ([] : List Byte).length + 1 := by
  decide +kernel

theorem test_witness_FrameCheck : (List.replicate 249 (0 : Byte)).length ≤ 249
    ∧ (keptWrong ++ [(0x00, 0)]).map Prod.fst = [0xA5, 0x01, 0x24] ++ [] ++ [0x00, 0x00]
    ∧ (0x01 : Byte).toNat = ([] : List Byte).length + 1 := by decide +kernel

/-- Point 3 with its filter run begun 40 units ago. -/
def runOf (raw filtered : Level) (owner : Option ObjId) : Point :=
  { raw := raw, filtered := filtered, runStart := 49960, runFilter := 40, lastEdge := 0, glitch := 255, owner := owner }

/-- A run that ends as a glitch at the saturated count, and one that ends no filter run. -/
theorem test_witness_RawTransition :
    (running.setPoint 3 (runOf .made .opn none)).inReset = false
    ∧ ((running.setPoint 3 (runOf .made .opn none)).point 3).raw ≠ ((running.setPoint 3 (runOf .made .opn none)).point 3).filtered
    ∧ (running.point 3).raw = (running.point 3).filtered := by decide +kernel

/-- A run of exactly its filter time; a LIVE and a SUSPENDED owner; the measured point going to OPEN. -/
theorem test_witness_EdgeAccepted :
    (let s := (withObj single running).setPoint 3 (runOf .made .opn (some 2));
      s.inReset = false ∧ (s.point 3).raw ≠ (s.point 3).filtered ∧ (s.point 3).runFilter = interval (s.point 3).runStart s.clock
      ∧ s.partState = .running ∧ (s.point 3).owner = some 2 ∧ s.object 2 = some single ∧ single.admission = .live)
    ∧ (let s := (withObj { single with admission := .suspended } running).setPoint 3 (runOf .made .opn (some 2));
      s.object 2 = some { single with admission := .suspended })
    ∧ (let s : State := { running.setPoint 3 (runOf .opn .made none) with
          measure := some { phase := .reference, point := 3, start := 49990 } };
      (s.point 3).raw = .opn ∧ (s.point 3).raw ≠ (s.point 3).filtered
      ∧ s.measure = some { phase := .reference, point := 3, start := 49990 }) := by decide +kernel

/-- A step with nothing to report, one with a reason and no change, one with an urgent reason, a change with a request and
a change under quarantine without one. -/
theorem test_witness_ApplyStepEffect :
    (single.begin.change = none ∧ single.begin.reason = none)
    ∧ (let p := single.begin.raise .serviceDue; p.change = none ∧ p.reason = some .routine)
    ∧ (single.begin.raise .slow).reason = some .urgent
    ∧ (let p := ObjStep.commit .picked 49960 single.begin; p.change = some (.picked, 49960) ∧ p.reason = some .routine)
    ∧ (let p := ObjStep.commit .picked 49960 ({ single with quarantined := true, serviceLatch := true } : Obj).begin;
      p.change = some (.picked, 49960) ∧ p.reason = none) := by decide +kernel

/-- A source with no entry, in the routine queue, and in the urgent queue. -/
theorem test_witness_RequestTable :
    let e : Entry := { source := .output 0, created := 1 };
    (holds running.urgent (.output 0) = false ∧ holds running.routine (.output 0) = false)
    ∧ (let s : State := { running with routine := [e] };
      holds s.urgent (.output 0) = false ∧ holds s.routine (.output 0) = true)
    ∧ holds ({ running with urgent := [e] } : State).urgent (.output 0) = true := by decide +kernel

/-- The change that begins a quarantine at limit + 1 and is the operation that meets the service threshold. -/
theorem test_witness_CommittedChange :
    let o : Obj := { single with windowCount := 12, opCount := 4 };
    (o.quarantined = false ∧ o.cfg.chatterLimit ≠ 0 ∧ o.cfg.chatterLimit < min (o.windowCount + 1) 255)
    ∧ (o.cfg.kind ≠ .coded ∧ o.settled = some .dropped)
    ∧ (o.cfg.service ≠ 0 ∧ o.cfg.service ≤ min (o.opCount + 1) 65535 ∧ o.serviceLatch = false)
    ∧ ¬ (single.cfg.chatterLimit < min (single.windowCount + 1) 255) := by decide +kernel

/-- Each deadline at the count at which it is reached; the steady value held already and not. -/
theorem test_witness_ObjectDeadlines :
    (let o : Obj := { Obj.define (defOf (.pair 4)) with settleDeadline := some 50000 };
      let s := withObj o running;
      s.inReset = false ∧ s.partState = .running ∧ s.object 2 = some o ∧ o.admission = .live
      ∧ o.evaluated = .shown .unproven ∧ o.settleDeadline = some 50000 ∧ reached 50000 s.clock = true)
    ∧ (let o := pair .transit (some .picked) { quietPair with transitStart := some 45960, transitDeadline := some 50000 };
      (withObj o running).object 2 = some o ∧ o.evaluated = .transit ∧ o.pair.transitDeadline = some 50000)
    ∧ (let o := pair .conflictPending (some .picked) { quietPair with conflictStart := some 49600, conflictDeadline := some 50000 };
      (withObj o running).object 2 = some o ∧ o.evaluated = .conflictPending ∧ o.pair.conflictDeadline = some 50000)
    ∧ (let o := coded .steadyOpen { emptyCode with steadyDeadline := some 50000 };
      (withObj o running).object 2 = some o ∧ o.cfg.kind = .coded ∧ o.code.steadyDeadline = some 50000
      ∧ o.evaluated = .shown .steadyOpen ∧ o.evaluated ≠ .shown .steadyMade) := by decide +kernel

theorem test_witness_SingleAndUnprovenEdges :
    ((Obj.define (defOf (.pair 4))).cfg.kind ≠ .coded ∧ (Obj.define (defOf (.pair 4))).evaluated = .shown .unproven)
    ∧ (single.cfg.kind = .single .front ∧ single.evaluated ≠ .shown .unproven) := by decide +kernel

/-- A PAIR object on points 3 and 4, in each evaluated indication of the table. -/
theorem test_witness_PairEdgeTable :
    (defOf (.pair 4)).pointA ≠ 4
    ∧ (pair (.shown .picked) (some .picked) quietPair).evaluated = .shown Rest.picked.indication
    ∧ (pair (.shown .dropped) (some .dropped) quietPair).evaluated = .shown Rest.picked.opposite.indication
    ∧ (let o := pair .transit (some .picked) { quietPair with transitStart := some 0, transitDeadline := some 4040 };
      o.evaluated = .transit ∧ o.pair.transitStart = some 0 ∧ o.origin = some .picked ∧ o.origin = some Rest.dropped.opposite)
    ∧ (let o := pair (.shown .lost) (some .picked) { quietPair with transitStart := some 0 };
      o.evaluated = .shown .lost ∧ o.pair.transitStart = some 0 ∧ o.origin = some .picked)
    ∧ (let o := pair (.shown .lost) none quietPair;
      o.evaluated = .shown .lost ∧ o.pair.transitStart = none)
    ∧ (let o := pair .conflictPending (some .picked) { quietPair with conflictStart := some 0, conflictDeadline := some 400 };
      o.evaluated = .conflictPending ∧ o.pair.conflictStart = some 0 ∧ o.origin = some .picked)
    ∧ (pair (.shown .conflict) none quietPair).evaluated = .shown .conflict := by decide +kernel

/-- An overlap by one unit, a transfer of exactly the limit, and one unit over it. -/
theorem test_witness_TransferRule :
    precedes 0#32 1#32 = true
    ∧ (precedes 4000#32 0#32 = false ∧ ¬ ((defOf (.pair 4)).transitMs * 10 < (4000#32 - 0#32).toNat))
    ∧ (precedes 4001#32 0#32 = false ∧ (defOf (.pair 4)).transitMs * 10 < (4001#32 - 0#32).toNat) := by decide +kernel

/-- A table of two bands that share no rate, a rate at an end of one and a rate between them. -/
theorem test_witness_CodeArithmetic :
    let bands : Vector (Option Band) 8 :=
      upd (upd (Vector.replicate 8 none) 0 (some { min := 70, max := 80 })) 1 (some { min := 110, max := 130 });
    (bands.get 1 = some { min := 110, max := 130 } ∧ 110 ≤ 130 ∧ 130 ≤ 130 ∧ bands.get 7 = none)
    ∧ ¬ (70 ≤ 131 ∧ 131 ≤ 80) ∧ ¬ (110 ≤ 131 ∧ 131 ≤ 130) ∧ 20 ≤ 20 ∧ 200999 < 201000 := by decide +kernel

/-- A CODED object with no anchor, with a ring of three and with a full ring. -/
theorem test_witness_CodedEdges :
    (coded .unproven emptyCode).code.anchor = none
    ∧ (let o := coded .noCode { emptyCode with anchor := some 0, periods := [40, 40, 40, 40] };
      o.cfg.kind = .coded ∧ o.code.periods.length ≤ 4 ∧ o.code.anchor = some 0)
    ∧ ([40, 40] ++ [40]).length < 4 ∧ ([40, 40, 40] ++ [40]).length = 4 := by decide +kernel

/-- The candidate held, proposed for the first time, and confirmed, from a code and from UNPROVEN. -/
theorem test_witness_Hysteresis :
    (coded (.code 1) emptyCode).evaluated = .shown (.code 1)
    ∧ ((coded (.code 1) emptyCode).evaluated ≠ .shown (.code 2) ∧ emptyCode.candidate ≠ some (.code 2))
    ∧ (let o := coded (.code 1) { emptyCode with candidate := some (.code 2) };
      o.cfg.kind = .coded ∧ o.evaluated ≠ .shown (.code 2) ∧ o.code.candidate = some (.code 2) ∧ o.evaluated ≠ .shown .unproven)
    ∧ (coded .unproven { emptyCode with candidate := some (.code 2) }).evaluated = .shown .unproven := by decide +kernel

/-- A boundary reached at its count; a window count at half the limit releases and one above does not. -/
theorem test_witness_ChatterBoundary :
    running.inReset = false ∧ running.partState = .running ∧ running.window = some { start := 30000, next := 50000 }
    ∧ reached 50000 running.clock = true
    ∧ (let o : Obj := { single with quarantined := true, windowCount := 6 };
      (withObj o running).object 2 = some o ∧ o.windowCount ≤ o.staged.chatter.getD o.cfg.chatterLimit / 2)
    ∧ ¬ (7 ≤ single.staged.chatter.getD single.cfg.chatterLimit / 2) := by decide +kernel

/-- An object of each kind for Adjust Object, with a service threshold already met; an output for Adjust Output; number
bytes that name nothing. -/
theorem test_witness_Adjustments :
    ReadyRunning (withObj single running) ∧ (withObj single running).object 2 = some single
    ∧ ((0x1F : Byte).toNat % 32 ≠ 0 ∧ (0x20 : Byte).toNat % 32 = 0)
    ∧ ((0x10 : Byte).getLsbD 4 = true ∧ 1 < (2 : Byte).toNat)
    ∧ (∀ b, single.cfg.kind ≠ .pair b) ∧ (Obj.define (defOf .coded)).cfg.kind = .coded
    ∧ (4 ≠ single.cfg.service ∧ single.admission = .live ∧ 4 ≤ single.opCount)
    ∧ (Outside 20 5000 19 ∧ Outside 20 5000 5001 ∧ ¬ Outside 20 5000 20 ∧ ¬ Outside 20 5000 5000)
    ∧ (∀ n : ObjId, n.val = (255 : Byte).toNat → running.object n = none)
    ∧ ReadyRunning (pulseAt .faulted) ∧ (pulseAt .faulted).output 0 = some (outAt .pulseOnly none .faulted)
    ∧ (∀ i : OutId, i.val = (64 : Byte).toNat → running.output i = none) := by
  refine ⟨runs _ (by decide +kernel), by decide +kernel, by decide, by decide, ?_, by decide +kernel, by decide +kernel,
    by decide, by decide +kernel, runs _ (by decide +kernel), by decide +kernel, by decide +kernel⟩
  intro b h
  cases h

theorem test_witness_SuspendAndResume :
    ReadyRunning (withObj single running) ∧ (withObj single running).object 2 = some single ∧ single.admission = .live
    ∧ (let o : Obj := { single with admission := .suspended, serviceTest := true };
      ReadyRunning (withObj o running) ∧ (withObj o running).object 2 = some o ∧ o.admission = .suspended
      ∧ o.serviceTest = true ∧ o.cfg.service ≠ 0 ∧ o.cfg.service ≤ o.opCount ∧ o.serviceLatch = false)
    ∧ (∀ n : ObjId, n.val = (128 : Byte).toNat → running.object n = none) := by
  refine ⟨runs _ (by decide +kernel), by decide +kernel, rfl, ⟨runs _ (by decide +kernel), ?_⟩,
    by decide +kernel⟩
  decide +kernel

/-- A body that fits for object 127, the highest number; number 128; points owned and not. -/
theorem test_witness_DefineObject :
    ReadyConfiguring configuring ∧ ((1 : Byte).toNat ≤ 2 ∧ (3 : Byte) ≠ 4 ∧ (1 : Byte).toNat ≤ 1) ∧ ¬ ((3 : Byte).toNat ≤ 2)
    ∧ 127 < (128 : Byte).toNat ∧ (127 : ObjId).val = (127 : Byte).toNat ∧ configuring.object 127 = none
    ∧ ¬ ((configuring.point (pointNumber 255)).owner ≠ none)
    ∧ (withObj single configuring).object 2 ≠ none
    ∧ ((withObj single configuring).point (pointNumber 3)).owner ≠ none := by
  exact ⟨ready_configuring, by decide, by decide, by decide, by decide, by decide +kernel, by decide +kernel,
    by decide +kernel, by decide +kernel⟩

/-- Output 63, the highest number, with a partner and a proving object; a number out of range; a defined output. -/
theorem test_witness_DefineOutput :
    ReadyConfiguring configuring ∧ ((1 : Byte).toNat ≤ 1 ∧ (62 : Byte) ≠ 63 ∧ (0x11 ≤ (0x18 : Byte).toNat ∧ (0x18 : Byte).toNat ≤ 0x18))
    ∧ ((63 : Byte).toNat ≤ 63 ∧ (127 : Byte).toNat ≤ 127) ∧ ¬ ((64 : Byte).toNat ≤ 63) ∧ ¬ ((2 : Byte).toNat ≤ 1)
    ∧ (63 : OutId).val = (63 : Byte).toNat ∧ configuring.output 63 = none
    ∧ (configuring.setOutput 0 (outAt .pulseOnly none .off)).output 0 ≠ none := by
  exact ⟨ready_configuring, by decide, by decide, by decide, by decide, by decide, by decide +kernel, by decide +kernel⟩

/-- Two bands that share one rate, an inverted band, and a table that is taken. -/
theorem test_witness_SetBands :
    ReadyConfiguring configuring ∧ (List.replicate 40 (0 : Byte)).length = 40
    ∧ clamp 1 999 (num2 0 80) < clamp 1 999 (num2 0 81)
    ∧ (clamp 1 999 (num2 0 70) ≤ clamp 1 999 (num2 0 90) ∧ clamp 1 999 (num2 0 80) ≤ clamp 1 999 (num2 0 80)) := by
  exact ⟨ready_configuring, by decide, by decide, by decide⟩

/-- Group 15 and 16; part timing in CONFIGURING and in RUNNING with and without the desk-silence field alone. -/
theorem test_witness_SetGroupAndTiming :
    ReadyLoaded running ∧ 1 < (2 : Byte).toNat ∧ 15 < (16 : Byte).toNat ∧ (15 : GroupId).val = (15 : Byte).toNat
    ∧ (Outside 1 50 51 ∧ ¬ Outside 1 50 50) ∧ ((0xF0 : Byte).toNat % 16 = 0 ∧ (8 : Byte).toNat % 16 ≠ 0)
    ∧ ((8 : Byte).getLsbD 0 = false ∧ (8 : Byte).getLsbD 1 = false ∧ (8 : Byte).getLsbD 2 = false)
    ∧ (running.partState = .running ∧ (9 : Byte).getLsbD 0 = true) := by
  exact ⟨ready_loaded, by decide, by decide, by decide, by decide, by decide, by decide, by decide⟩

theorem test_witness_SetReportingAndSurvey :
    ReadyLoaded running ∧ ((3 : Byte).toNat % 4 ≠ 0 ∧ (3 : Byte).toNat ≤ 3 ∧ (1 : Byte).toNat ≤ 1) ∧ ¬ ((4 : Byte).toNat ≤ 3)
    ∧ ((0xF8 : Byte).toNat % 8 = 0 ∧ (7 : Byte).toNat % 8 ≠ 0) ∧ running.surveySet.degrade ≤ num2 1 244 := by
  exact ⟨ready_loaded, by decide, by decide, by decide, by decide⟩

/-- No definitions: every test passes. An output whose partner is not defined: the first offender. -/
theorem test_witness_StartPerformed :
    ReadyConfiguring configuring ∧ (∀ i, PassesStart configuring i)
    ∧ (let s := configuring.setOutput 1 (outAt .latchable (some 0) .off);
      ReadyConfiguring s ∧ ¬ PassesStart s 1 ∧ ∀ j : OutId, j < 1 → PassesStart s j) := by
  refine ⟨ready_configuring, fun i => (outputPasses_iff _ i).1 ?_, ⟨ready_of _ (by decide +kernel), by decide +kernel⟩, fun h => ?_, fun j hj =>
    (outputPasses_iff _ j).1 ?_⟩
  · revert i
    decide +kernel
  · exact absurd ((outputPasses_iff _ _).2 h) (by decide +kernel)
  · revert j
    decide +kernel

/-- No signature; a check that fails; one that agrees; bytes that make no image; an image that is refused, one with no
definitions, and an autostart that passes and one that fails. -/
theorem test_witness_ImageLoadEnds :
    let auto : Image := { blankImage with autostart := true };
    let form : OutputForm := (outDef .latchable (some 0)).form 1;
    let twice : Image := { blankImage with objects := [(defOf .coded).form 2, (defOf .coded).form 3] };
    (State.reset.inReset = false ∧ State.reset.partState = .loading ∧ State.reset.memory.signature ≠ 0x4757#16)
    ∧ (ConfigMemory.whole []).signature = 0x4757#16 ∧ ({ ConfigMemory.whole [] with check := 0 } : ConfigMemory).check ≠ crc []
    ∧ (ConfigMemory.whole []).check = crc (ConfigMemory.whole []).content
    ∧ parseImage [] = none ∧ parseImage (blankImage.bytes ++ [0]) = none ∧ parseImage (2 :: blankImage.bytes.tail) = none
    ∧ parseImage blankImage.bytes = some blankImage
    ∧ applyImage { blankImage with objects := [(defOf (.pair 3)).form 2] } State.reset = none
    ∧ applyImage twice State.reset = none
    ∧ (applyImage blankImage State.reset).isSome = true
    ∧ ((applyImage auto State.reset).map fun u => outputPasses u 1) = some true
    ∧ ((applyImage { auto with outputs := [form] } State.reset).map fun u => outputPasses u 1) = some false := by
  decide +kernel

/-- A definition and a band table of an image that are refused, and ones that are not. -/
theorem test_witness_ImageDefinitions :
    ObjectRefused State.reset ((defOf (.pair 3)).form 2) ∧ ¬ ObjectRefused State.reset ((defOf .coded).form 127)
    ∧ OutputRefused State.reset ((outDef .latchable (some 1)).form 1)
    ∧ ¬ OutputRefused State.reset ((outDef .latchable (some 1)).form 63)
    ∧ BandsRefused (upd (Vector.replicate 8 none) 7 (some (81, 80))) ∧ ¬ BandsRefused blankImage.bands := by
  refine ⟨.inl fun h => absurd (h.2.2.1 (by decide)) (by decide), ?_, .inr (.inl ?_), ?_, .inl ⟨7, 81, 80, ?_⟩, ?_⟩
  · unfold ObjectRefused ObjectFits
    decide +kernel
  · decide +kernel
  · unfold OutputRefused NamesExpected
    decide +kernel
  · decide +kernel
  · have hb : ∀ i, blankImage.bands.get i = none := by decide +kernel
    rintro (⟨i, lo, hi, h, -⟩ | ⟨i, j, a, b, c, d, -, h, -⟩)
    · rw [hb i] at h
      cases h
    · rw [hb i] at h
      cases h

/-- A store in progress, with a copy and as an erasure, and none; the options. -/
theorem test_witness_StoreImage :
    (let s : State := { running with store := some { start := 1, copy := none } };
      ReadyLoaded s ∧ s.store ≠ none ∧ s.inReset = false ∧ s.store = some { start := 1, copy := none })
    ∧ ReadyLoaded running ∧ running.store = none ∧ 2 < (3 : Byte).toNat ∧ (1 : Byte).toNat ≤ 1
    ∧ ({ start := 1, copy := some blankImage } : StoreJob).copy = some blankImage
    ∧ (withObj single running).object 2 = some single := by
  exact ⟨⟨⟨ready_of _ (by decide +kernel), by decide⟩, by decide, by decide, by decide⟩, ready_loaded, by decide, by decide,
    by decide, rfl, by decide +kernel⟩

/-- A definition of each kind within its limits, and an output with and without a proving object. -/
theorem test_witness_StoredDefinitionsLoadBack :
    (let d : ObjDef := { kind := .pair 4, pointA := 3, tag := 4095, urgent := true, transitMs := 5000, chatterLimit := 60,
                         steadyMs := 0, service := 65535 };
      d.tag ≤ 4095 ∧ 2 ≤ d.chatterLimit ∧ d.chatterLimit ≤ 60 ∧ d.pointA ≠ 4 ∧ d.transitMs ≤ 5000 ∧ d.service ≤ 65535)
    ∧ (let d : ObjDef := { kind := .coded, pointA := 3, tag := 0, urgent := false, transitMs := 0, chatterLimit := 0,
                           steadyMs := 200, service := 0 };
      d.chatterLimit = 0 ∧ 200 ≤ d.steadyMs ∧ d.transitMs = 0 ∧ d.service = 0)
    ∧ (let d : ObjDef := { kind := .single .back, pointA := 3, tag := 0, urgent := false, transitMs := 0, chatterLimit := 2,
                           steadyMs := 0, service := 0 };
      d.transitMs = 0 ∧ d.steadyMs = 0 ∧ d.service ≤ 65535)
    ∧ (let d := outDef .latchable (some 1);
      d.tag ≤ 4095 ∧ 20 ≤ d.pulseMs ∧ d.pulseMs ≤ 10000 ∧ 100 ≤ d.provingMs ∧ d.provingMs ≤ 60000 ∧ d.partner ≠ some 0
      ∧ d.proving ≠ none ∧ d.expected = some .picked)
    ∧ (let d : OutDef := { outDef .pulseOnly none with proving := none, expected := none };
      d.proving = none → d.expected = none) := by decide +kernel

/-- The settings at reset are in their ranges, and an image of them leaves them. -/
theorem test_witness_StoredSettings : SettingsInRange State.reset ∧ SettingsOf blankImage State.reset State.reset := by
  refine ⟨⟨by decide +kernel, ?_, by decide, by decide, by decide, by decide, by decide, by decide, by decide⟩,
    ⟨rfl, by decide +kernel, by decide +kernel, by decide +kernel, rfl, by decide +kernel, by decide +kernel, by decide +kernel⟩⟩
  have h : ∀ i, State.reset.bands.get i = none := by decide +kernel
  intro i b hb
  rw [h i] at hb
  cases hb

/-- The half period run out in CONFIGURING; each part state for the lamps. -/
theorem test_witness_Lamps :
    (let s : State := { configuring with clock := 5000 };
      s.inReset = false ∧ s.partState = .configuring ∧ 5000 ≤ interval s.flashStart s.clock)
    ∧ ({ running with inReset := true } : State).inReset = true ∧ running.inReset = false ∧ running.partState = .running
    ∧ State.reset.partState = .loading := by decide +kernel

/-- An output in each state; a partner that is energised. -/
theorem test_witness_PulseOutput :
    ReadyRunning (pulseAt .off) ∧ (pulseAt .off).output 0 = some (outAt .pulseOnly none .off)
    ∧ ¬ ExclusionFails (pulseAt .off) (outAt .pulseOnly none .off)
    ∧ (latchAt .latched).output 0 = some (outAt .latchable none .latched)
    ∧ (pulseAt .faulted).output 0 = some (outAt .pulseOnly none .faulted)
    ∧ ReadyRunning (partnersAt .off .latched) ∧ (partnersAt .off .latched).output 0 = some (outAt .latchable (some 1) .off)
    ∧ ExclusionFails (partnersAt .off .latched) (outAt .latchable (some 1) .off)
    ∧ (∀ i : OutId, i.val = (255 : Byte).toNat → running.output i = none) := by
  refine ⟨runs _ (by decide +kernel), by decide +kernel, fun h => ?_, by decide +kernel, by decide +kernel, runs _ (by decide +kernel),
    by decide +kernel, (excluded_iff _ _).1 (by decide +kernel), by decide +kernel⟩
  exact absurd ((excluded_iff _ _).2 h) (by decide +kernel)

/-- An output in each state, with a proof that awaits the pulse's end and without. -/
theorem test_witness_LatchOutput :
    ReadyRunning (latchAt .off) ∧ (latchAt .off).output 0 = some (outAt .latchable none .off)
    ∧ ¬ ExclusionFails (latchAt .off) (outAt .latchable none .off)
    ∧ (latchAt (.pulsing 1)).output 0 = some (outAt .latchable none (.pulsing 1))
    ∧ (((latchAt (.pulsing 1)).setProof 0 (proofOf .awaitingPulseEnd none)).proof 0).phase = .awaitingPulseEnd
    ∧ ((latchAt (.pulsing 1)).proof 0).phase ≠ .awaitingPulseEnd
    ∧ (latchAt .latched).output 0 = some (outAt .latchable none .latched)
    ∧ (latchAt .faulted).output 0 = some (outAt .latchable none .faulted)
    ∧ (pulseAt .off).output 0 = some (outAt .pulseOnly none .off)
    ∧ ExclusionFails (partnersAt .off (.pulsing 1)) (outAt .latchable (some 1) .off) := by
  refine ⟨runs _ (by decide +kernel), by decide +kernel, fun h => ?_, by decide +kernel, by decide +kernel, by decide +kernel,
    by decide +kernel, by decide +kernel, by decide +kernel, (excluded_iff _ _).1 (by decide +kernel)⟩
  exact absurd ((excluded_iff _ _).2 h) (by decide +kernel)

/-- An output in each state, its readback on and off. -/
theorem test_witness_ReleaseOutput :
    ReadyRunning (latchAt .off) ∧ (latchAt .off).output 0 = some (outAt .latchable none .off)
    ∧ (latchAt (.pulsing 1)).output 0 = some (outAt .latchable none (.pulsing 1))
    ∧ (((latchAt (.pulsing 1)).setProof 0 (proofOf .awaitingPulseEnd none)).proof 0).phase = .awaitingPulseEnd
    ∧ ((latchAt (.pulsing 1)).proof 0).phase ≠ .awaitingPulseEnd
    ∧ (latchAt .latched).output 0 = some (outAt .latchable none .latched)
    ∧ (latchAt .faulted).output 0 = some (outAt .latchable none .faulted) ∧ (latchAt .faulted).readbackOn 0 = false
    ∧ ({ latchAt .faulted with readback := upd running.readback 0 true } : State).readbackOn 0 = true := by
  refine ⟨runs _ (by decide +kernel), ?_⟩
  decide +kernel

/-- Outputs 0, 1 and 2 in a state of three members: free to pulse, the last latched, the last faulted, and partners. -/
def threeAt (partner : Option OutId) (last : OutState) : State :=
  ((running.setOutput 0 (outAt .latchable partner .off)).setOutput 1 (outAt .latchable (partner.map fun _ => 0) .off)).setOutput
    2 (outAt .latchable none last)

/-- Three members for each test of a group of any number: one latched, one faulted, two that are partners, one excluded
from outside, and none of these. -/
theorem test_witness_GroupPulseOfThree :
    (([0, 1, 2] : List OutId).map fun i => BitVec.ofNat 8 i.val) = (([0, 1, 2, 3] : List Byte).take (3 : Byte).toNat)
    ∧ (([0, 1, 2] : List Byte).Nodup ∧ ReadyRunning (threeAt none .off) ∧ ∀ i ∈ ([0, 1, 2] : List OutId), (threeAt none .off).output i ≠ none)
    ∧ (threeAt none .latched).output 2 = some (outAt .latchable none .latched)
    ∧ (threeAt none .faulted).output 2 = some (outAt .latchable none .faulted)
    ∧ ((threeAt (some 1) .off).output 0 = some (outAt .latchable (some 1) .off)
      ∧ (threeAt (some 1) .off).output 1 = some (outAt .latchable (some 0) .off))
    ∧ (let s := ((threeAt none .off).setOutput 2 (outAt .latchable (some 3) .off)).setOutput 3 (outAt .latchable (some 2) .latched);
      s.output 2 = some (outAt .latchable (some 3) .off) ∧ (3 : OutId) ∉ ([0, 1, 2] : List OutId)
      ∧ ExclusionFails s (outAt .latchable (some 3) .off)) := by
  refine ⟨by decide, ⟨by decide, runs _ (by decide +kernel), by decide +kernel⟩, by decide +kernel, by decide +kernel,
    by decide +kernel, by decide +kernel, by decide, (excluded_iff _ _).1 (by decide +kernel)⟩

/-- Two members without partners, two that are each other's partner, one latched, one faulted, and one whose partner
outside the group is energised. -/
theorem test_witness_GroupPulse :
    (let s := (pulseAt .off).setOutput 1 (outAt .pulseOnly none .off);
      ReadyRunning s ∧ s.output 0 = some (outAt .pulseOnly none .off) ∧ s.output 1 = some (outAt .pulseOnly none .off)
      ∧ (outAt .pulseOnly none .off).cfg.partner ≠ some 0 ∧ excluded s (outAt .pulseOnly none .off) = false)
    ∧ ((outAt .latchable (some 1) .off).cfg.partner = some 1 ∧ (partnersAt .off .off).output 1 = some (outAt .latchable (some 0) .off))
    ∧ (partnersAt .latched .faulted).output 0 = some (outAt .latchable (some 1) .latched)
    ∧ (partnersAt .off .faulted).output 1 = some (outAt .latchable (some 0) .faulted)
    ∧ (let s := (partnersAt .off .latched).setOutput 2 (outAt .pulseOnly none .off);
      s.output 2 = some (outAt .pulseOnly none .off) ∧ ExclusionFails s (outAt .latchable (some 1) .off)
      ∧ (outAt .latchable (some 1) .off).cfg.partner ≠ some 2)
    ∧ (2 ≤ (4 : Byte).toNat ∧ (4 : Byte).toNat ≤ 4 ∧ (([0, 1, 2, 3] : List Byte).take (4 : Byte).toNat).Nodup)
    ∧ (([0, 1] : List OutId).map fun i => BitVec.ofNat 8 i.val) = (([0, 1, 2, 3] : List Byte).take (2 : Byte).toNat) := by
  refine ⟨⟨runs _ (by decide +kernel), ?_⟩, by decide +kernel, by decide +kernel, by decide +kernel, ⟨by decide +kernel, ?_, by decide⟩,
    by decide, by decide⟩
  · decide +kernel
  · exact (excluded_iff _ _).1 (by decide +kernel)

/-- The silence deadline at its count; an output with a proof in flight and one without. -/
theorem test_witness_ReleaseAllAndSilence :
    ReadyRunning running ∧ running.inReset = false ∧ running.silenceDeadline = some 50000 ∧ reached 50000 running.clock = true
    ∧ (let s := (latchAt .latched).setProof 0 (proofOf .watching (some 60000));
      s.output 0 = some (outAt .latchable none .latched) ∧ (s.proof 0).phase ≠ .none)
    ∧ (let s := ((partnersAt .off .latched).setProof 1 (proofOf .watching (some 60000))).setProof 0
          (proofOf .awaitingPulseEnd none);
      ((List.finRange 64).filter fun i => (s.output i).isSome && decide ((s.proof i).phase ≠ .none)) = [0, 1])
    ∧ running.output 63 = none := by
  refine ⟨ready_running, ?_⟩
  decide +kernel

/-- An object to watch that is elsewhere, one already there, and none; a proof in flight and none. -/
theorem test_witness_ProofStartsAndEnds :
    NothingToWatch running (some 2)
    ∧ AlreadyThere (withObj single running) (some 2) (some .dropped)
    ∧ (¬ NothingToWatch (withObj single running) (some 2) ∧ ¬ AlreadyThere (withObj single running) (some 2) (some .picked))
    ∧ ((pulseAt .off).proof 0).phase = .none ∧ (pulseAt .off).output 0 = some (outAt .pulseOnly none .off)
    ∧ (((pulseAt .off).setProof 0 (proofOf .watching (some 60000))).proof 0).phase ≠ .none := by
  refine ⟨(proofCourse_noObject_iff _ _ none).1 (by decide +kernel), (proofCourse_already_iff _ _ _).1 (by decide +kernel),
    (proofCourse_watch_iff _ _ _).1 (by decide +kernel), ?_⟩
  decide +kernel

/-- Each timing of an output at its count; a readback at a defined output and at one that is not. -/
theorem test_witness_OutputTimings :
    (let s := pulseAt (.pulsing 50000);
      s.inReset = false ∧ s.output 0 = some (outAt .pulseOnly none (.pulsing 50000)) ∧ reached 50000 s.clock = true
      ∧ (s.proof 0).phase ≠ .awaitingPulseEnd)
    ∧ (let s := (pulseAt .off).setProof 0 (proofOf .watching (some 50000));
      (s.proof 0).phase = .watching ∧ (s.proof 0).deadline = some 50000)
    ∧ (let x : Output := { outAt .pulseOnly none .off with mismatch := some 49800 };
      let s := running.setOutput 0 x;
      s.partState = .running ∧ s.output 0 = some x ∧ x.state ≠ .faulted ∧ 200 ≤ interval 49800 s.clock)
    ∧ configuring.partState ≠ .running ∧ running.output 63 = none := by decide +kernel

/-- A proof that watches the object for the value, and one that does not. -/
theorem test_witness_CommittedChangeProves :
    let s := (pulseAt .off).setProof 0 (proofOf .watching (some 60000));
    ((s.proof 0).phase = .watching ∧ (s.proof 0).object = some 2 ∧ (s.proof 0).expected = some .picked
      ∧ s.output 0 = some (outAt .pulseOnly none .off))
    ∧ (s.proof 1).phase ≠ .watching ∧ precedes 48999#32 49000#32 = true ∧ precedes 49000#32 49000#32 = false := by
  decide +kernel

/-- A point that may be measured, the last before the cursor; a relay room with none. -/
theorem test_witness_SurveyAttempt :
    (let s := ((withObj single running).setPoint 3 (runOf .made .made (some 2))).setGroup 0
          { filterMs := 4, survey := true, refRes := 1000, refFault := false };
      let t : State := { s with surveyCursor := 4 };
      t.inReset = false ∧ t.partState = .running ∧ t.nextAttempt = some 50000 ∧ reached 50000 t.clock = true
      ∧ MayBeMeasured t (t.surveyCursor + 255) ∧ ∀ j : Fin 256, j < 255 → ¬ MayBeMeasured t (t.surveyCursor + j))
    ∧ ∀ p, ¬ MayBeMeasured running p := by
  simp only [← eligible_iff]
  decide +kernel

/-- A measurement at the end of each gate, a count at the least good one, and the flag of the group set and clear. -/
theorem test_witness_SurveyGates :
    (let m : Measurement := { phase := .reference, point := 255, start := 49900 };
      let s : State := { running with measure := some m };
      s.inReset = false ∧ s.measure = some m ∧ 100 ≤ interval m.start s.clock ∧ (s.group (groupOf m.point)).refFault = false
      ∧ 499 < 500 ∧ ((s.setGroup 15 { Group.reset with refFault := true }).group (groupOf m.point)).refFault = true)
    ∧ (let m : Measurement := { phase := .point 5000, point := 3, start := 49800 };
      let s : State := { withObj single running with measure := some m };
      s.measure = some m ∧ 200 ≤ interval m.start s.clock ∧ (s.point m.point).owner = some 2 ∧ s.object 2 = some single
      ∧ ((s.healthOf m.point).measured s.surveySet 501).degraded = (s.healthOf m.point).degraded
      ∧ (({ Health.reset with overCount := 1 }).measured s.surveySet 501).degraded ≠ Health.reset.degraded) := by
  decide +kernel

/-- A result at the clear threshold, one above it, at the degrade threshold, and one above it. -/
theorem test_witness_ResistanceJudged :
    let set := SurveySettings.reset;
    set.clear < set.degrade ∧ Health.reset.overCount ≤ 2 ∧ 300 ≤ set.clear ∧ (set.clear < 301 ∧ 500 ≤ set.degrade)
    ∧ set.degrade < 501 ∧ 0 < 1 := by decide

theorem test_witness_ReadRecordsAndTables :
    ReadyLoaded running ∧ Health.reset.overCount ≤ 2 ∧ (∀ n : ObjId, n.val = (255 : Byte).toNat → running.object n = none)
    ∧ (∀ i : OutId, i.val = (0 : Byte).toNat → running.output i = none)
    ∧ (withObj single running).object 2 = some single ∧ (pulseAt .off).output 0 = some (outAt .pulseOnly none .off)
    ∧ 1 < (2 : Byte).toNat ∧ (1 : Byte).toNat ≤ 1 := by
  exact ⟨ready_loaded, by decide, by decide +kernel, by decide +kernel, by decide +kernel, by decide +kernel, by decide, by decide⟩

theorem test_witness_ReadClockAndStatus : Ready State.reset ∧ running.window = some { start := 30000, next := 50000 }
    ∧ State.reset.window = none := by
  exact ⟨ready_of _ (by decide +kernel), rfl, rfl⟩

theorem test_witness_SnapshotAndReset :
    ReadyRunning running ∧ running.snapshot = none ∧ ReadyLoaded running
    ∧ ({ running with snapshot := some { position := .last, cursor := .snapEnd, sent := 1 } } : State).snapshot ≠ none := by
  exact ⟨ready_running, rfl, ready_loaded, by decide⟩

/-- Urgent and routine work both waiting with the counter below N and at N; each alone; neither. -/
theorem test_witness_SchedulerChoice :
    let e : Entry := { source := .part, created := 1 };
    let f : Entry := { source := .output 0, created := 1 };
    let both : State := { running with urgent := [e], routine := [f] };
    (both.tx = none ∧ both.answers = [] ∧ both.urgent = [e] ∧ both.routine ≠ [] ∧ both.reporting.ratio = .r4
      ∧ both.urgentRun < 4 ∧ ({ both with urgentRun := 4 } : State).urgentRun = 4)
    ∧ ({ both with reporting := { ratio := .strict, position := .last } } : State).reporting.ratio = .strict
    ∧ (running.urgent = [] ∧ running.snapshot = none ∧ running.routine = [])
    ∧ ({ running with answers := [{ echo := 0x24, code := .accepted, data := [] }] } : State).answers ≠ []
    ∧ ({ running with tx := some { frame := { type := 0x85, body := [] }, parts := [], start := 0, isReset := false } } : State).tx ≠ none := by
  decide +kernel

/-- A defined object, a defined output and the part summary, each with and without an urgent entry. -/
theorem test_witness_ReportsAndSnapshotRecords :
    (withObj single running).object 2 = some single ∧ (pulseAt .off).output 0 = some (outAt .pulseOnly none .off)
    ∧ (∀ src ∈ [Source.object 2, Source.output 0, Source.part],
      holds [{ source := src, created := 1 }] src = true ∧ holds running.urgent src = false) := by
  decide +kernel

/-- The highest committed band; an answer without data, with one block and with three. -/
theorem test_witness_IndicationMessageLayouts :
    (coded (.code 7) emptyCode).evaluated = .shown (.code 7) ∧ 65535 ≤ 65535
    ∧ (let a (data : List (List Byte)) : Answer := { echo := 0x22, code := .accepted, data := data };
      (a []).data = [] ∧ (a [[7]]).data = [[7]] ∧ 2 ≤ (a [[1], [2], [3]]).data.length ∧ (a [[1], [2], [3]]).data[2]? = some [3]) := by
  decide

theorem test_witness_SnapshotOrder : Cursor.source (.object 127) = some (.object 127) ∧ Cursor.source .summary = some .part := by
  decide

/-- A frame with a part behind it, the last frame of a Reset answer, and the last frame of another. -/
theorem test_witness_FrameEnds :
    let f : Frame := { type := 0x86, body := [] };
    let s (parts : List Frame) (r : Bool) : State :=
      { running with tx := some { frame := f, parts := parts, start := 0, isReset := r } };
    (s [f] false).inReset = false ∧ (s [f] false).tx = some { frame := f, parts := [f], start := 0, isReset := false }
    ∧ (s [] true).tx = some { frame := f, parts := [], start := 0, isReset := true }
    ∧ (s [] false).tx = some { frame := f, parts := [], start := 0, isReset := false } := by decide +kernel

end Sys2Proof.Tests
end

section
/-! Contact pairs and transit timing (section 3): what a transfer does. -/

namespace Sys2Proof.Proofs.Pairs

open Sys2Proof.Machine

/-! ## The order of two capture times and the transit time -/

theorem precedes_iff (x y : Time) :
    precedes x y = true ↔ 1 ≤ (y - x).toNat ∧ (y - x).toNat ≤ 2147483647 :=
  decide_eq_true_iff

theorem transitTime_of_not_precedes {opening making : Time} (h : ¬ precedes making opening = true) :
    transitTime opening making = interval opening making :=
  if_neg h

/-! ## The event of a transfer: OVERLAP, SLOW or none -/

variable {o : Obj} {opening making : Time}

theorem transferEvents_overlap (h : precedes making opening = true) :
    o.begin.transferEvents opening making =
      { obj := { o with events := o.events ||| Event.overlap.bit }, reason := some .routine, change := none } :=
  if_pos h

theorem transferEvents_slow (h : ¬ precedes making opening = true)
    (hs : o.cfg.transitMs * 10 < transitTime opening making) :
    o.begin.transferEvents opening making =
      { obj := { o with events := o.events ||| Event.slow.bit }, reason := some .urgent, change := none } := by
  rw [transitTime_of_not_precedes h] at hs
  exact (if_neg h).trans (if_pos hs)

theorem transferEvents_none (h : ¬ precedes making opening = true)
    (hs : ¬ o.cfg.transitMs * 10 < transitTime opening making) : o.begin.transferEvents opening making = o.begin := by
  rw [transitTime_of_not_precedes h] at hs
  exact (if_neg h).trans (if_neg hs)

/-! ## The transfer -/

/-- Whatever event a transfer raises, the rest of it is the same: the origin and the recorded time are set, then the
opposite indication is committed (R45). -/
theorem transfer_of_transferEvents {events : BitVec 8} {reason : Option ReportClass} (origin : Rest) (cap : Time)
    (h : o.begin.transferEvents opening making =
      { obj := { o with events := events }, reason := reason, change := none }) :
    transfer origin opening making cap o = ObjStep.commit origin.opposite.indication cap
      { obj := { o with origin := some origin.opposite, events := events,
                        pair := o.pair.record origin.opposite (transitTime opening making) }
        reason := reason
        change := none } := by
  rw [transfer, h]
  rfl

/-- Settles O20: each of the three outcomes of the event test goes through the same recording and commitment. -/
theorem transferRule : Obligations.TransferRule := by
  unfold Obligations.TransferRule
  refine ⟨precedes_iff, fun origin opening making cap o => ?_⟩
  intro overlap units slow record pair toward
  have htoward : toward = origin.opposite := by cases origin <;> rfl
  have hpair : pair = o.pair.record origin.opposite (transitTime opening making) := by cases origin <;> rfl
  rw [htoward, hpair]
  refine ⟨fun hover => ?overlap, fun ⟨hnot, hlong⟩ => ?slow, fun hnot hquick => ?quiet⟩
  case overlap => exact transfer_of_transferEvents origin cap (transferEvents_overlap hover)
  case slow => exact transfer_of_transferEvents origin cap (transferEvents_slow hnot hlong)
  case quiet =>
    have hin : ¬ o.cfg.transitMs * 10 < transitTime opening making := fun hlong => hquick ⟨hnot, hlong⟩
    exact transfer_of_transferEvents (events := o.events) origin cap (transferEvents_none hnot hin)

end Sys2Proof.Proofs.Pairs
end

section
/-! Coded indications (section 4): the hysteresis over a candidate and the detector's commitment. -/

namespace Sys2Proof.Proofs.Coded

open Sys2Proof.Machine Sys2Proof.Safety

variable {c : Indication} {cap now : Time} {o : Obj}

/-! ## Out of UNPROVEN -/

theorem joinReason_none_left (r : Option ReportClass) : joinReason none r = r := by
  rcases r with _ | _ | _ <;> rfl

theorem follow_of_no_reason (v : Indication) (change : Option (Indication × Time)) :
    ObjStep.follow v { obj := o, reason := none, change := change } =
      { obj := { o with reported := v }, reason := some (classInto o.cfg.urgent v), change := change } := by
  rw [ObjStep.follow, joinReason_none_left]
  rfl

/-- A CODED object has no settled indication to take (R29). -/
theorem settle_of_coded (v : Indication) (hkind : o.cfg.kind = .coded) : Obj.settle v o = o := by
  simp [Obj.settle, Obj.counts, hkind]

/-- R26 at a CODED object: it has no origin and no settled indication, so only the change and the settle-in deadline are
recorded before the reported indication follows. -/
theorem leaveUnproven_of_coded (v : Indication) (t : Time) (hkind : o.cfg.kind = .coded) :
    o.begin.leaveUnproven v t =
      { obj := { o.setChange v t with settleDeadline := none, reported := v }
        reason := some (classInto o.cfg.urgent v)
        change := some (v, t) } := by
  have hsettle : Obj.settle v { o.setChange v t with settleDeadline := none } =
      { o.setChange v t with settleDeadline := none } := settle_of_coded v hkind
  have hchanged : (o.setChange v t).cfg.kind = .coded := hkind
  simp only [ObjStep.leaveUnproven, Obj.begin, hsettle, hchanged]
  exact follow_of_no_reason v (some (v, t))

/-! ## The commitment -/

theorem codeCommit_of_proven (hproven : o.evaluated ≠ .shown .unproven) :
    codeCommit c cap now o = o.begin.commit c cap :=
  if_neg hproven

/-- R72 from UNPROVEN: the edge started no steady timing, so the commitment does. -/
theorem codeCommit_of_unproven (hkind : o.cfg.kind = .coded) (hunproven : o.evaluated = .shown .unproven) :
    codeCommit c cap now o =
      { obj := { o.setChange c cap with
          settleDeadline := none
          reported := c
          code := { o.code with steadyDeadline := some (after now (o.cfg.steadyMs * 10)) } }
        reason := some (classInto o.cfg.urgent c)
        change := some (c, cap) } := by
  rw [codeCommit, if_pos hunproven, leaveUnproven_of_coded c cap hkind]
  rfl

/-! ## The three cases of an evaluation -/

theorem hysteresis_of_committed (hsame : o.evaluated = .shown c) :
    hysteresis c cap now o = ({ o with code := { o.code with candidate := none } } : Obj).begin :=
  if_pos hsame

theorem hysteresis_of_new_candidate (hdiff : o.evaluated ≠ .shown c) (hnew : o.code.candidate ≠ some c) :
    hysteresis c cap now o = ({ o with code := { o.code with candidate := some c } } : Obj).begin :=
  (if_neg hdiff).trans (if_neg hnew)

theorem hysteresis_of_pending_candidate (hdiff : o.evaluated ≠ .shown c) (hpending : o.code.candidate = some c) :
    hysteresis c cap now o = codeCommit c cap now { o with code := { o.code with candidate := none } } :=
  (if_neg hdiff).trans (if_pos hpending)

/-- Settles O23: the rows of R71's table, with the confirmed candidate committed by R72 from a held classification and
from UNPROVEN. -/
theorem hysteresis : Obligations.Hysteresis := by
  unfold Obligations.Hysteresis
  intro c cap now o hkind cleared
  refine ⟨hysteresis_of_committed, hysteresis_of_new_candidate, ?held, ?unproven⟩
  case held =>
    intro hdiff hpending hproven
    have hcommit : codeCommit c cap now cleared = cleared.begin.commit c cap := codeCommit_of_proven hproven
    exact (hysteresis_of_pending_candidate hdiff hpending).trans hcommit
  case unproven =>
    intro hdiff hpending hunproven
    exact (hysteresis_of_pending_candidate hdiff hpending).trans
      (codeCommit_of_unproven (o := cleared) hkind hunproven)

end Sys2Proof.Proofs.Coded
end

section
/-! Requests for a queue entry (section 6.1): one equation of `request` for each cell of R93's table. -/

namespace Sys2Proof.Proofs.Requests

open Sys2Proof.Machine Sys2Proof.Laws

variable {q : List Entry} {src : Source} {s : State}

/-! ## Finding the entry of a source -/

theorem entryOf_eq_none (h : holds q src = false) : entryOf q src = none :=
  List.find?_eq_none.mpr fun e he => by simpa using holds_false_iff.mp h e he

theorem entryOf_eq_some (h : holds q src = true) : ∃ e, entryOf q src = some e := by
  refine Option.ne_none_iff_exists'.mp fun hnone => ?_
  rw [entryOf_none hnone] at h
  contradiction

/-! ## The source has no urgent entry -/

theorem request_urgent_of_no_entry (hu : holds s.urgent src = false) (hr : holds s.routine src = false) :
    request src .urgent s = { s with urgent := s.urgent ++ [{ source := src, created := s.clock }] } := by
  simp [request, hu, entryOf_eq_none hr]

theorem request_routine_of_no_entry (hu : holds s.urgent src = false) (hr : holds s.routine src = false) :
    request src .routine s = { s with routine := s.routine ++ [{ source := src, created := s.clock }] } := by
  simp [request, hu, entryOf_eq_none hr]

/-- The promotion: the entry itself is moved, so its creation time is kept. -/
theorem request_urgent_of_routine_entry {e : Entry} (hu : holds s.urgent src = false)
    (he : entryOf s.routine src = some e) :
    request src .urgent s = { s with routine := without s.routine src, urgent := s.urgent ++ [e] } := by
  simp [request, hu, he]

theorem request_routine_of_routine_entry {e : Entry} (hu : holds s.urgent src = false)
    (he : entryOf s.routine src = some e) : request src .routine s = s := by
  simp [request, hu, he]

/-- Settles O15: the rows of R93's table are an urgent entry, no entry, and a routine entry. -/
theorem requestTable : Obligations.RequestTable := by
  unfold Obligations.RequestTable
  intro src s
  refine ⟨fun c hu => request_of_urgent c hu, fun hu hr => ?none, fun hu hr => ?routine⟩
  case none => exact ⟨request_urgent_of_no_entry hu hr, request_routine_of_no_entry hu hr⟩
  case routine =>
    obtain ⟨e, he⟩ := entryOf_eq_some hr
    obtain ⟨hmem, hsource⟩ := entryOf_some he
    exact ⟨request_routine_of_routine_entry hu he, e, hmem, hsource, request_urgent_of_routine_entry hu he⟩

end Sys2Proof.Proofs.Requests
end

section
/-! The frame check (R155): the register over one more byte, the check bytes of a sent frame and the receiver's
comparison. -/

namespace Sys2Proof.Proofs.FrameCheck

open Sys2Proof.Machine Sys2Proof.Laws

/-! ## The register -/

/-- The eight nested shifts of `crcByte` are eight iterations of one shift. -/
theorem crcByte_eq_iterate (r : BitVec 16) (b : Byte) : crcByte r b = crcShift^[8] (r ^^^ (b.zeroExtend 16 <<< 8)) :=
  rfl

theorem crc_append_singleton (bytes : List Byte) (b : Byte) : crc (bytes ++ [b]) = crcByte (crc bytes) b := by
  simp [crc, List.foldl_append]

/-! ## The two check bytes -/

theorem be16_toNat (w : Word16) : be16 w.toNat = [w.extractLsb' 8 8, w.extractLsb' 0 8] := by
  simp [be16, BitVec.extractLsb', Nat.shiftRight_eq_div_pow]

/-- Two bytes are the two-byte field of a value exactly when they join to it, the first high (R154). -/
theorem bytes_eq_be16_iff {hi lo : Byte} {w : Word16} : [hi, lo] = be16 w.toNat ↔ hi ++ lo = w := by
  constructor
  · intro h
    rw [be16_toNat] at h
    cases h
    exact word_of_bytes w
  · rintro rfl
    rw [be16_toNat, BitVec.extractLsb'_append_eq_left, BitVec.extractLsb'_append_eq_right]

/-- R154: SOF, then LEN, TYPE and BODY, then the check over these, high byte first. -/
theorem frame_bytes (type : Byte) (body : List Byte) : ∃ hi lo : Byte,
    Frame.bytes { type := type, body := body } = [0xA5, u8 (body.length + 1), type] ++ body ++ [hi, lo]
      ∧ hi ++ lo = crc ([u8 (body.length + 1), type] ++ body) := by
  refine ⟨_, _, ?_, bytes_eq_be16_iff.mp rfl⟩
  simp [Frame.bytes, Frame.checked, sof, be16]

theorem u8_toNat {n : Nat} (h : n ≤ 255) : (u8 n).toNat = n := by
  simp only [u8, BitVec.toNat_ofNat]
  omega

/-! ## The comparison -/

section Comparison

variable {kept : List (Byte × Time)} {start len type : Byte} {body check : List Byte}

theorem frameNeeds_of_keptBytes {rest : List Byte} (h : keptBytes kept = start :: len :: rest) :
    frameNeeds kept = len.toNat + 4 := by
  rcases kept with _ | ⟨first, _ | ⟨second, others⟩⟩
  · cases h
  · cases h
  · cases h
    rfl

theorem checkedBytes_of_frame (h : keptBytes kept = [start, len, type] ++ body ++ check)
    (hlen : len.toNat = body.length + 1) : checkedBytes kept = [len, type] ++ body := by
  have hneeds : frameNeeds kept - 3 = ([len, type] ++ body).length := by
    simp [frameNeeds_of_keptBytes h, hlen]
  rw [checkedBytes, h, hneeds]
  exact List.take_left' rfl

theorem drop_checked_of_frame (h : keptBytes kept = [start, len, type] ++ body ++ check)
    (hlen : len.toNat = body.length + 1) : (keptBytes kept).drop (frameNeeds kept - 2) = check := by
  have hneeds : frameNeeds kept - 2 = ([start, len, type] ++ body).length := by
    simp [frameNeeds_of_keptBytes h, hlen]
  rw [h, hneeds]
  exact List.drop_left' rfl

theorem checkGood_iff {hi lo : Byte} (h : keptBytes kept = [start, len, type] ++ body ++ [hi, lo])
    (hlen : len.toNat = body.length + 1) : checkGood kept = true ↔ hi ++ lo = crc ([len, type] ++ body) := by
  rw [checkGood, decide_eq_true_iff, drop_checked_of_frame h hlen, checkedBytes_of_frame h hlen]
  exact bytes_eq_be16_iff

end Comparison

/-- Settles O11: the register by the recursion of the fold, both ends of the link by the one fact on two-byte fields. -/
theorem frameCheck : Obligations.FrameCheck := by
  unfold Obligations.FrameCheck
  intro shift
  refine ⟨rfl, fun bytes b => ?register, ?value, fun type body hbody => ?sent, fun kept _ _ _ _ _ _ => checkGood_iff⟩
  case register => exact (crc_append_singleton bytes b).trans (crcByte_eq_iterate _ b)
  case value => decide +kernel
  case sent =>
    obtain ⟨hi, lo, hbytes, hcheck⟩ := frame_bytes type body
    exact ⟨_, hi, lo, u8_toNat (by omega), hbytes, hcheck⟩

end Sys2Proof.Proofs.FrameCheck
end

section
/-! The receipt of a good frame and its execution (R160): what the receipt writes, that no control message touches the
answer queue, and the overrun. -/

namespace Sys2Proof.Proofs.GoodFrames

open Sys2Proof.Machine Sys2Proof.Safety Sys2Proof.Laws Sys2Proof.Proofs.Requests

/-! ## The receipt -/

section Receipt

variable {s : State}

/-- The module after a receipt, before a part entry is requested for the end of a silence. -/
def restarted (s : State) : State :=
  { hunt s with goodFrame := true, silenceDeadline := some (after s.clock s.silenceUnits), deskSilent := false }

theorem received_of_not_running (h : s.partState ≠ .running) : received s = { hunt s with goodFrame := true } :=
  if_neg h

theorem received_of_not_silent (h : s.partState = .running) (hs : s.deskSilent = false) : received s = restarted s :=
  (if_pos h).trans (if_neg (by simp [hs]))

theorem received_of_silent (h : s.partState = .running) (hs : s.deskSilent = true) :
    received s = request .part .routine (restarted s) :=
  (if_pos h).trans (if_pos hs)

/-- A routine request leaves the urgent queue and appends to the routine queue where neither holds the source (R93). -/
theorem request_routine_eq (src : Source) (s : State) : request src .routine s = { s with
    routine := if holds s.urgent src = false ∧ holds s.routine src = false
      then s.routine ++ [{ source := src, created := s.clock }] else s.routine } := by
  cases hu : holds s.urgent src
  case true => simp [request_of_urgent .routine hu]
  case false =>
    cases hr : holds s.routine src
    case false => simp [request_routine_of_no_entry hu hr]
    case true =>
      obtain ⟨e, he⟩ := entryOf_eq_some hr
      simp [request_routine_of_routine_entry hu he]

theorem receiptEffect_received (s : State) : ReceiptEffect s (received s) := by
  by_cases hrun : s.partState = .running
  case neg =>
    rw [received_of_not_running hrun]
    constructor <;> simp [hrun, hunt]
  case pos =>
    cases hs : s.deskSilent
    case false =>
      rw [received_of_not_silent hrun hs]
      constructor <;> simp [hrun, hs, restarted, State.silenceUnits, msUnits]
    case true =>
      rw [received_of_silent hrun hs, request_routine_eq]
      constructor <;> simp [hrun, hs, restarted, State.silenceUnits, msUnits]

end Receipt

/-! ## No control message touches the answer queue -/

/-- Executing the message leaves the answer queue as it stands: its own answer is appended afterwards (R160). -/
def KeepsAnswers (m : Handler) : Prop := ∀ body s, (m body s).1.answers = s.answers

/-- What an effect on the objects, the outputs or the queues cannot touch. -/
theorem answers_of_objectSide {s t : State} (h : ObjectSide s t) : t.answers = s.answers := by
  obtain ⟨_, _, _, _, _, _, rfl⟩ := h
  rfl

section Outcomes

variable {s : State} {f g : Executed}

theorem inConfiguring_answers (h : f.1.answers = s.answers) : (inConfiguring s f).1.answers = s.answers := by
  unfold inConfiguring
  split
  · rfl
  · rfl
  · exact h

theorem inRunning_answers (h : f.1.answers = s.answers) : (inRunning s f).1.answers = s.answers := by
  unfold inRunning
  split
  · rfl
  · rfl
  · exact h

theorem afterLoading_answers (h : f.1.answers = s.answers) : (afterLoading s f).1.answers = s.answers := by
  unfold afterLoading
  split
  · rfl
  · exact h
  · exact h

theorem done_answers {t : State} (code : AnswerCode) (h : t.answers = s.answers) :
    (done code t).1.answers = s.answers := h

/-- A test of a message decides between two outcomes. -/
theorem ite_answers {c : Prop} [Decidable c] (hf : f.1.answers = s.answers) (hg : g.1.answers = s.answers) :
    (if c then f else g).1.answers = s.answers := by
  split
  · exact hf
  · exact hg

theorem ite_state_answers {c : Prop} [Decidable c] {t u : State} (ht : t.answers = s.answers)
    (hu : u.answers = s.answers) : (if c then t else u).answers = s.answers := by
  split
  · exact ht
  · exact hu

theorem foldl_answers {α : Type} {step : State → α → State} (h : ∀ t a, (step t a).answers = t.answers) :
    ∀ (l : List α) (s : State), (l.foldl step s).answers = s.answers
  | [], _ => rfl
  | a :: l, s => (foldl_answers h l (step s a)).trans (h s a)

end Outcomes

/-! ### Definitions and settings -/

theorem addObject_answers (n : ObjId) (d : ObjDef) (s : State) : (addObject n d s).answers = s.answers :=
  foldl_answers (step := own n) (fun _ _ => rfl) d.points _

theorem defineObjectForm_answers {f : ObjectForm} {s t : State} {moved : Bool}
    (h : defineObjectForm f s = .ok (t, moved)) : t.answers = s.answers := by
  unfold defineObjectForm at h
  split at h
  · split at h
    · cases h
    · dsimp only at h
      split at h
      · cases h
      · cases h
        exact addObject_answers _ _ s
  · cases h

theorem defineOutputForm_answers {f : OutputForm} {s t : State} {moved : Bool}
    (h : defineOutputForm f s = .ok (t, moved)) : t.answers = s.answers := by
  unfold defineOutputForm at h
  split_ifs at h
  split at h
  · cases h
  · split_ifs at h
    cases h
    rfl

theorem defined_answers {r : Except AnswerCode (State × Bool)} {s : State}
    (h : ∀ t moved, r = .ok (t, moved) → t.answers = s.answers) : (defined r s).1.answers = s.answers := by
  unfold defined
  split
  · exact h _ _ rfl
  · rfl

theorem defineObject_keepsAnswers : KeepsAnswers msgDefineObject := by
  intro body s
  refine inConfiguring_answers ?_
  split
  · exact defined_answers fun _ _ => defineObjectForm_answers
  · rfl

theorem defineOutput_keepsAnswers : KeepsAnswers msgDefineOutput := by
  intro body s
  refine inConfiguring_answers ?_
  split
  · exact defined_answers fun _ _ => defineOutputForm_answers
  · rfl

theorem setBands_keepsAnswers : KeepsAnswers msgSetBands := by
  intro body s
  refine inConfiguring_answers ?_
  split
  · split <;> rfl
  · rfl

theorem discardInGroup_answers (g : GroupId) (s : State) : (discardInGroup g s).answers = s.answers :=
  ite_state_answers rfl rfl

theorem setGroup_keepsAnswers : KeepsAnswers msgSetGroup := by
  intro body s
  refine afterLoading_answers ?_
  split
  · split
    · exact done_answers _ (discardInGroup_answers _ _)
    · rfl
  · rfl

theorem setPartTiming_keepsAnswers : KeepsAnswers msgSetPartTiming := by
  intro body s
  refine afterLoading_answers ?_
  split
  · exact ite_answers rfl (ite_answers rfl rfl)
  · rfl

theorem setRatio_answers (mode : Option RatioMode) (s : State) : (setRatio mode s).answers = s.answers := by
  cases mode <;> rfl

theorem setPosition_answers (pos : Option SummaryPos) (s : State) : (setPosition pos s).answers = s.answers := by
  cases pos <;> rfl

theorem setReporting_keepsAnswers : KeepsAnswers msgSetReporting := by
  intro body s
  refine afterLoading_answers ?_
  split
  · refine ite_answers rfl ?_
    split
    · exact done_answers _ ((setPosition_answers _ _).trans (setRatio_answers _ s))
    · rfl
  · rfl

theorem setSurvey_keepsAnswers : KeepsAnswers msgSetSurvey := by
  intro body s
  refine afterLoading_answers ?_
  split
  · exact ite_answers rfl rfl
  · rfl

/-! ### Adjustments, START and suspension -/

theorem adjustObject_keepsAnswers : KeepsAnswers msgAdjustObject := by
  intro body s
  refine inRunning_answers ?_
  split
  · refine ite_answers rfl ?_
    split
    · exact ite_answers rfl (done_answers _ (answers_of_objectSide (applyStep_objectSide _ _ s)))
    · rfl
  · rfl

theorem adjustOutput_keepsAnswers : KeepsAnswers msgAdjustOutput := by
  intro body s
  refine inRunning_answers ?_
  split
  · refine ite_answers rfl ?_
    split <;> rfl
  · rfl

theorem performStart_answers (s : State) : (performStart s).answers = s.answers :=
  foldl_answers (fun t i => answers_of_objectSide (sampleDriver_outputSide i t).objectSide) _ _

theorem start_keepsAnswers : KeepsAnswers msgStart := by
  intro body s
  refine inConfiguring_answers (ite_answers rfl ?_)
  split
  · rfl
  · exact done_answers _ (performStart_answers s)

theorem discardOfObject_answers (n : ObjId) (s : State) : (discardOfObject n s).answers = s.answers :=
  ite_state_answers rfl rfl

theorem suspend_answers (n : ObjId) (o : Obj) (s : State) : (suspend n o s).answers = s.answers :=
  (answers_of_objectSide (request_queuesOnly _ _ _).objectSide).trans
    (discardOfObject_answers n (s.setObject n o.suspend))

theorem suspendObject_keepsAnswers : KeepsAnswers msgSuspendObject := by
  intro body s
  refine inRunning_answers ?_
  split
  · split
    · exact done_answers _ (ite_state_answers (suspend_answers _ _ s) rfl)
    · rfl
  · rfl

theorem resumeObject_keepsAnswers : KeepsAnswers msgResumeObject := by
  intro body s
  refine inRunning_answers ?_
  split
  · split
    · exact done_answers _ (ite_state_answers (answers_of_objectSide (applyStep_objectSide _ _ s)) rfl)
    · rfl
  · rfl

/-! ### Outputs -/

theorem pulseOutput_keepsAnswers : KeepsAnswers msgPulseOutput := by
  intro body s
  refine inRunning_answers ?_
  split
  · split
    · refine ite_answers rfl (ite_answers rfl (ite_answers rfl (done_answers _ ?_)))
      exact answers_of_objectSide (pulse_outputSide _ s).objectSide
    · rfl
  · rfl

theorem latchOutput_keepsAnswers : KeepsAnswers msgLatchOutput := by
  intro body s
  refine inRunning_answers ?_
  split
  · split
    · refine ite_answers rfl (ite_answers rfl (ite_answers rfl (done_answers _ ?_)))
      exact answers_of_objectSide (latch_outputSide _ _ s).objectSide
    · rfl
  · rfl

theorem release_answers (i : OutId) (x : Output) (s : State) : (release i x s).1.answers = s.answers := by
  have hoff : (enterState i .off s).answers = s.answers :=
    answers_of_objectSide (enterState_outputSide i .off s).objectSide
  unfold release
  split
  · rfl
  · exact done_answers _ (answers_of_objectSide (endPulse_outputSide i s).objectSide)
  · exact done_answers _ hoff
  · exact ite_answers rfl (done_answers _ ((answers_of_objectSide (request_queuesOnly _ _ _).objectSide).trans hoff))

theorem releaseOutput_keepsAnswers : KeepsAnswers msgReleaseOutput := by
  intro body s
  refine inRunning_answers ?_
  split
  · split
    · exact release_answers _ _ s
    · rfl
  · rfl

theorem groupPulse_keepsAnswers : KeepsAnswers msgGroupPulse := by
  intro body s
  refine inRunning_answers ?_
  split
  · split
    · refine ite_answers rfl (ite_answers rfl (ite_answers rfl (done_answers _ ?_)))
      exact answers_of_objectSide (groupPulse_outputSide _ _ s).objectSide
    · rfl
  · rfl

theorem releaseAll_keepsAnswers : KeepsAnswers msgReleaseAll := by
  intro body s
  refine inRunning_answers (ite_answers rfl (done_answers _ ?_))
  exact answers_of_objectSide (releaseEvery_outputSide s).objectSide

/-! ### Snapshot and reads -/

theorem snapshot_keepsAnswers : KeepsAnswers msgSnapshot := fun _ _ =>
  inRunning_answers (ite_answers rfl (ite_answers rfl rfl))

theorem readObject_keepsAnswers : KeepsAnswers msgReadObject := by
  intro body s
  refine afterLoading_answers ?_
  split
  · split <;> rfl
  · rfl

theorem readOutput_keepsAnswers : KeepsAnswers msgReadOutput := by
  intro body s
  refine afterLoading_answers ?_
  split
  · split <;> rfl
  · rfl

theorem readPoints_keepsAnswers : KeepsAnswers msgReadPoints := by
  intro body s
  refine afterLoading_answers ?_
  split <;> rfl

theorem clearHealth_answers (points : List PointId) (s : State) : (clearHealth points s).answers = s.answers :=
  foldl_answers (step := fun t p => t.setHealth p (t.healthOf p).cleared) (fun _ _ => rfl) points s

theorem readHealth_keepsAnswers : KeepsAnswers msgReadHealth := by
  intro body s
  refine afterLoading_answers ?_
  split
  · split
    · exact ite_state_answers (clearHealth_answers _ s) rfl
    · rfl
  · rfl

theorem readClock_keepsAnswers : KeepsAnswers msgReadClock := fun _ _ => ite_answers rfl rfl

theorem readStatus_keepsAnswers : KeepsAnswers msgReadStatus := fun _ _ => ite_answers rfl rfl

/-! ### Image store, reset and the unknown TYPE -/

theorem storeImage_keepsAnswers : KeepsAnswers msgStoreImage := by
  intro body s
  refine afterLoading_answers (ite_answers rfl ?_)
  split
  · exact ite_answers rfl (ite_answers rfl (ite_answers rfl rfl))
  · rfl

theorem reset_keepsAnswers : KeepsAnswers msgReset := fun _ _ => afterLoading_answers (ite_answers rfl rfl)

theorem unknown_keepsAnswers : KeepsAnswers msgUnknown := fun _ _ => rfl

theorem handlers_keepAnswers : ∀ m ∈ handlers, KeepsAnswers m := by
  simp only [handlers, List.cons_append, List.nil_append, List.forall_mem_cons]
  exact ⟨defineObject_keepsAnswers, defineOutput_keepsAnswers, setBands_keepsAnswers, setGroup_keepsAnswers,
    setPartTiming_keepsAnswers, setReporting_keepsAnswers, setSurvey_keepsAnswers, adjustObject_keepsAnswers,
    adjustOutput_keepsAnswers, start_keepsAnswers, suspendObject_keepsAnswers, resumeObject_keepsAnswers,
    pulseOutput_keepsAnswers, latchOutput_keepsAnswers, releaseOutput_keepsAnswers, groupPulse_keepsAnswers,
    releaseAll_keepsAnswers, snapshot_keepsAnswers, readObject_keepsAnswers, readOutput_keepsAnswers,
    readPoints_keepsAnswers, readHealth_keepsAnswers, readClock_keepsAnswers, readStatus_keepsAnswers,
    storeImage_keepsAnswers, reset_keepsAnswers, unknown_keepsAnswers, List.forall_mem_nil _⟩

/-! ## The receipt and execution of a frame -/

/-- Section 10.4: each row's command is the receipt of a frame of the row's TYPE, run by the handler of that TYPE. -/
theorem exec_of_messageTable {m : MessageRow} (hm : m ∈ messageTable) (body : List Byte) (s : State) :
    exec (m.make body) s = controlMessage m.type (handlerOf m.type) body s := by
  fin_cases hm <;> rfl

theorem exec_unknownType {type : Byte} (ht : type ∉ controlTypes) (body : List Byte) (s : State) :
    exec (.unknownType type body) s = controlMessage type msgUnknown body s :=
  if_neg (by simpa using ht)

section Frame

variable {s : State} {c : Instr} {type : Byte} {m : Handler} {body : List Byte}

/-- With four answers waiting the frame is discarded: its receipt stands and the overrun is counted (R160). -/
theorem controlMessage_full (hopen : s.deaf = false) (hfull : 4 ≤ s.answers.length) :
    controlMessage type m body s = .next (schedule (overrun (received s))) := by
  have hplaces : Config.answerPlaces ≤ (received s).answers.length := by rwa [received_answers]
  have hreceive : receive type m body (hunt s) = overrun (received s) := if_pos hplaces
  simp [controlMessage, hopen, finish, hreceive]

theorem overrun_received (s : State) : overrun (received s) =
    { received s with errors := { s.errors with overruns := min (s.errors.overruns + 1) 65535 } } := by
  rw [overrun, received_errors, satInc]

/-- The two courses of a received frame (R160), for any command that is a frame of a TYPE run by one of the
handlers. -/
theorem frame_executed_once (hreset : s.inReset = false) (hclosed : s.rx.closed = false) (hm : m ∈ handlers)
    (hc : exec c s = controlMessage type m body s) :
    (4 ≤ s.answers.length → exec c s = .next (schedule { received s with
        errors := { s.errors with overruns := min (s.errors.overruns + 1) 65535 } }))
    ∧ (s.answers.length < 4 → ∃ code data v, v.answers = s.answers ∧ AnswersWith c type code data v s) := by
  constructor
  · intro hfull
    rw [hc, controlMessage_full (by simp [State.deaf, hreset, hclosed]) hfull, overrun_received]
  · intro hroom
    have hkept : (m body (received s)).1.answers = s.answers :=
      (handlers_keepAnswers m hm body (received s)).trans (received_answers s)
    exact ⟨_, _, _, hkept, hc.trans (controlMessage_ready ⟨hreset, hclosed, hroom⟩ type m body)⟩

end Frame

/-- Settles O7: the table's rows and the unknown TYPEs are frames run by a handler, and every such frame takes the one
course or the other. -/
theorem goodFrameExecutedOnce : Obligations.GoodFrameExecutedOnce := by
  unfold Obligations.GoodFrameExecutedOnce
  refine ⟨rfl, fun s body hreset hclosed => ⟨receiptEffect_received s, fun row hrow => ?known, fun t ht => ?unknown⟩⟩
  case known => exact frame_executed_once hreset hclosed (handlerOf_mem row.type) (exec_of_messageTable hrow body s)
  case unknown => exact frame_executed_once hreset hclosed (by simp [handlers]) (exec_unknownType ht body s)

end Sys2Proof.Proofs.GoodFrames
end

section
/-! What one step can do, said once as a relation: the effects of the commands with the conditions they act under, and
the shape of a step in their terms. An invariant that every effect keeps is kept by every step; unlike `Kept`, the
effects of a message are named one by one, and the shape also says how a step ends. -/

namespace Sys2Proof.Proofs.Effects

open Sys2Proof.Machine Sys2Proof.Safety Sys2Proof.Laws

/-! ## The effects -/

/-- The records the invariants are about stand in t as they stood in s; the clock, the settings, the link and the other
fields may differ. -/
def Aside (s t : State) : Prop :=
  t = { t with partState := s.partState, points := s.points, objects := s.objects, outputs := s.outputs,
               proofs := s.proofs, urgent := s.urgent, routine := s.routine, urgentRun := s.urgentRun,
               snapshot := s.snapshot, health := s.health, measure := s.measure, errors := s.errors,
               answers := s.answers, tx := s.tx }

/-- What an event other than an edge makes of the record of an object, with the conditions it happens under. -/
inductive ObjectChange (s : State) (o : Obj) : Obj → Prop where
  | delivered : ObjectChange s o o.delivered
  | settled (running : s.partState = .running) (live : o.admission = .live)
      (unproven : o.evaluated = .shown .unproven) : ObjectChange s o (settleStep s o).obj
  | transitEnded (deadline : Time) (running : s.partState = .running) (live : o.admission = .live)
      (moving : o.evaluated = .transit) : ObjectChange s o (transitExpiry deadline o.begin).obj
  | conflictEnded (deadline : Time) (running : s.partState = .running) (live : o.admission = .live)
      (pending : o.evaluated = .conflictPending) : ObjectChange s o (conflictExpiry deadline o.begin).obj
  | steadied (level : Level) (deadline : Time) (running : s.partState = .running) (live : o.admission = .live)
      (coded : o.cfg.kind = .coded) : ObjectChange s o (steadyStep level deadline o).obj
  | windowClosed : ObjectChange s o (boundaryStep o).obj
  | adjusted (f : AdjustObjectForm) : ObjectChange s o (adjustStep f o).obj
  | suspended (running : s.partState = .running) (live : o.admission = .live) : ObjectChange s o o.suspend
  | resumed (deadline : Time) (running : s.partState = .running) (asleep : o.admission = .suspended) :
      ObjectChange s o (resumeStep deadline o).obj
  | degraded : ObjectChange s o (degradeStep s o).obj

/-- The state in which an accepted edge is evaluated (R6, R148). -/
def accepted (p : PointId) (s : State) : State := discardOnOpen p (s.point p).raw (s.setPoint p (s.point p).accept)

/-- What evaluating an accepted edge gives a LIVE owner in RUNNING. -/
def edgeAt (p : PointId) (s : State) (o : Obj) : ObjStep :=
  edgeStep (accepted p s) p (s.point p).raw (s.point p).runStart o

/-- START before the driver check begins on the outputs (R171). -/
def startedState (s : State) : State :=
  { s with
    partState := .running
    objects := s.objects.map fun x => x.map (Obj.started s.settleUnits s.clock)
    window := some { start := s.clock, next := after s.clock s.windowUnits }
    silenceDeadline := some (after s.clock s.silenceUnits)
    deskSilent := false
    nextAttempt := some (after s.clock s.surveyUnits) }

/-- The counts of an outcome record are in their ranges (R126, R127). -/
def ResultInRange (r : OutcomeRec) : Prop := r.lost ≤ 255 ∧ r.time ≤ 65535

/-- One effect on the records, with the conditions under which a command has it. What a command does is some of these
one after another. -/
inductive Effect : State → State → Prop where
  | aside {s t : State} (h : Aside s t) : Effect s t
  | counted (s : State) (x : LinkErrors) (length : x.length ≤ max s.errors.length 65535)
      (check : x.check ≤ max s.errors.check 65535) (abandoned : x.abandoned ≤ max s.errors.abandoned 65535)
      (overruns : x.overruns ≤ max s.errors.overruns 65535) : Effect s { s with errors := x }
  | answered (s : State) (a : Answer) (room : s.answers.length < 4) : Effect s { s with answers := s.answers ++ [a] }
  | answerSent (s : State) (a : Answer) (rest : List Answer) (first : s.answers = a :: rest) :
      Effect s { s with answers := rest }
  | lineTaken (s : State) (x : Option Transmission) : Effect s { s with tx := x }
  | runZeroed (s : State) : Effect s { s with urgentRun := 0 }
  | runCounted (s : State) (below : routineTurn s = false) : Effect s { s with urgentRun := countUrgent s }
  | requested (src : Source) (c : ReportClass) (s : State) (defined : SourceDefined s src) : Effect s (request src c s)
  | entryRemoved (src : Source) (s : State) : Effect s (removeEntry src s)
  | snapshotBegun (s : State) (position : SummaryPos) :
      Effect s { s with snapshot := some { position := position, cursor := .snapBegin, sent := 0 } }
  | snapshotMoved (p : Snapshot) (s : State) : Effect s { s with snapshot := some (p.advance s) }
  | snapshotEnded (s : State) : Effect s { s with snapshot := none }
  | measured (s : State) (x : Option Measurement) (bound : ∀ m c, x = some m → m.phase = .point c → c ≤ 65535) :
      Effect s { s with measure := x }
  | healthSet (p : PointId) (h : Health) (s : State) (bound : HealthInRange (s.healthOf p) → HealthInRange h) :
      Effect s (s.setHealth p h)
  | rawTransition (p : PointId) (s : State) : Effect s (rawTransition p s)
  | edgeUnheard (p : PointId) (s : State) (due : edgeDue s p = true)
      (unheard : ∀ n o, s.partState = .running → (s.point p).owner = some n → s.live n ≠ some o) :
      Effect s (accepted p s)
  | edgeHeard (p : PointId) (n : ObjId) (o : Obj) (s : State) (due : edgeDue s p = true)
      (running : s.partState = .running) (owner : (s.point p).owner = some n) (live : s.live n = some o) :
      Effect s ((accepted p s).setObject n (edgeAt p s o).obj)
  | objectChanged (n : ObjId) (o x : Obj) (s : State) (found : s.object n = some o) (change : ObjectChange s o x) :
      Effect s (s.setObject n x)
  | outputChanged (i : OutId) (x y : Output) (s : State) (found : s.output i = some x)
      (partner : y.cfg.partner = x.cfg.partner) (driver : y.state.energised = true → x.state.energised = true)
      (bound : ResultInRange x.result → ResultInRange y.result) : Effect s (s.setOutput i y)
  | energised (i : OutId) (x : Output) (st : OutState) (s : State) (running : s.partState = .running)
      (found : s.output i = some x)
      (apart : ∀ j y, x.cfg.partner = some j → s.output j = some y → y.cfg.partner = some i →
        y.state.energised = false) : Effect s (s.setOutput i { x with state := st })
  | proofEnded (i : OutId) (s : State) : Effect s (s.setProof i (s.proof i).ended)
  | proofBegun (i : OutId) (x : Output) (kind : CmdKind) (s : State) (running : s.partState = .running)
      (found : s.output i = some x) : Effect s (s.setProof i (newProof s x kind))
  | objectDefined (f : ObjectForm) (s t : State) (moved : Bool) (early : s.partState ≠ .running)
      (accepted : defineObjectForm f s = .ok (t, moved)) : Effect s t
  | outputDefined (f : OutputForm) (s t : State) (moved : Bool) (early : s.partState ≠ .running)
      (accepted : defineOutputForm f s = .ok (t, moved)) : Effect s t
  | started (s : State) (early : s.partState ≠ .running) (passed : firstFailure s = none) : Effect s (startedState s)
  | configured (status : ImageStatus) (s : State) (loading : s.partState = .loading) :
      Effect s (enterConfiguring status s)
  | resetTaken (s : State) : Effect s (takeReset s)
  | resetEnded (straps : BitVec 2) (contacts : BitVec 256) (s : State) (held : s.inReset = true) :
      Effect s (endReset straps contacts s)

/-- Some effects one after another. -/
abbrev Reaches : State → State → Prop := Relation.ReflTransGen Effect

theorem Aside.reaches {s t : State} (h : Aside s t) : Reaches s t := .single (.aside h)

theorem Reaches.foldl {α : Type} {f : State → α → State} (h : ∀ s a, Reaches s (f s a)) :
    ∀ (l : List α) (s : State), Reaches s (l.foldl f s)
  | [], _ => .refl
  | a :: l, s => (h s a).trans (Reaches.foldl h l (f s a))

/-- An invariant that every effect keeps stands after any number of them. -/
theorem Reaches.keeps {I : State → Prop} (keeps : ∀ {s t}, Effect s t → I s → I t) {s t : State} (h : Reaches s t)
    (hs : I s) : I t := by
  induction h with
  | refl => exact hs
  | tail _ last ih => exact keeps last ih

theorem partState_of_outputSide {s t : State} (h : OutputSide s t) : t.partState = s.partState := by
  obtain ⟨_, _, _, _, _, rfl⟩ := h
  rfl

theorem reaches_requestPart (c : ReportClass) (s : State) : Reaches s (request .part c s) :=
  .single (.requested .part c s trivial)

theorem sourceDefined_request {src k : Source} {c : ReportClass} {s : State} :
    SourceDefined (request src c s) k ↔ SourceDefined s k := by
  obtain ⟨u, r, h⟩ := request_queuesOnly src c s
  rw [h]
  cases k <;> exact Iff.rfl

/-! ## Outputs and proofs -/

theorem satInc_le {limit n : Nat} : satInc limit n ≤ limit := min_le_right _ _

theorem sat16_le (n : Nat) : sat16 n ≤ 65535 := min_le_right _ _

theorem resultInRange_post {r : OutcomeRec} (h : ResultInRange r) (x : ProofOutcome) (p : Proof) {time : Nat}
    (bound : time ≤ 65535) : ResultInRange (r.post x p time) := by
  obtain ⟨hlost, -⟩ := h
  refine ⟨?_, bound⟩
  unfold OutcomeRec.post
  dsimp only
  split
  · exact satInc_le
  · exact hlost

/-- The outcome of a posting is requested for an output that is defined. -/
theorem reaches_postOutcome (i : OutId) (x : ProofOutcome) (p : Proof) {time : Nat} (bound : time ≤ 65535) (s : State) :
    Reaches s (postOutcome i x p time s) := by
  unfold postOutcome
  split
  · rename_i out hout
    exact (Relation.ReflTransGen.single
      (.outputChanged i out _ s hout rfl id fun h => resultInRange_post h x p bound)).tail
        (.requested (.output i) _ _ (by simp [SourceDefined]))
  · exact .refl

theorem reaches_endProof (i : OutId) (x : ProofOutcome) {time : Nat} (bound : time ≤ 65535) (s : State) :
    Reaches s (endProof i x time s) := by
  unfold endProof
  split
  · exact (Relation.ReflTransGen.single (.proofEnded i s)).trans (reaches_postOutcome i x _ bound _)
  · exact .refl

theorem reaches_startProof (i : OutId) (kind : CmdKind) {s : State} (running : s.partState = .running) :
    Reaches s (startProof i kind s) := by
  have same := partState_of_outputSide (endProof_outputSide i .abandoned 0 s)
  unfold startProof
  refine (reaches_endProof i .abandoned (Nat.zero_le _) s).trans ?_
  dsimp only
  split
  · exact .refl
  · rename_i out hout
    have begun := Relation.ReflTransGen.single (Effect.proofBegun i out kind _ (same.trans running) hout)
    split
    · exact begun.trans (reaches_postOutcome i _ _ (Nat.zero_le _) _)
    · exact begun

theorem reaches_proveChange (at_ : Time) (s : State) (i : OutId) : Reaches s (proveChange at_ s i) := by
  unfold proveChange
  dsimp only
  split
  · exact reaches_endProof i .already (Nat.zero_le _) s
  · exact reaches_endProof i .proven (sat16_le _) s

theorem reaches_notifyProofs (n : ObjId) (v : Indication) (at_ : Time) (s : State) :
    Reaches s (notifyProofs n v at_ s) := by
  have drawn : Reaches s { s with free := s.free + (proversOf s n v).length } := Aside.reaches (by rfl)
  exact drawn.trans (Reaches.foldl (reaches_proveChange at_) _ _)

theorem reaches_proofPulseEnd (i : OutId) (s : State) : Reaches s (proofPulseEnd i s) := by
  unfold proofPulseEnd
  split
  · exact reaches_endProof i .noProof (Nat.zero_le _) s
  · exact .refl

theorem reaches_sampleDriver (i : OutId) (s : State) : Reaches s (sampleDriver i s) := by
  unfold sampleDriver
  split
  · rename_i x hx
    split
    · exact .single (.outputChanged i x _ s hx rfl id id)
    · exact .refl
  · exact .refl

theorem reaches_setReadback (i : OutId) (on : Bool) (s : State) : Reaches s (setReadback i on s) := by
  have shown : Reaches s { s with readback := upd s.readback i on } := Aside.reaches (by rfl)
  exact shown.trans (reaches_sampleDriver i _)

/-- Entering OFF or FAULTED. -/
theorem reaches_enterState (i : OutId) {st : OutState} (off : st.energised = false) (s : State) :
    Reaches s (enterState i st s) := by
  unfold enterState
  split
  · rename_i x hx
    exact (Relation.ReflTransGen.single
      (.outputChanged i x { x with state := st } s hx rfl (fun h => by simp [off] at h) id)).trans
        (reaches_sampleDriver i _)
  · exact .refl

theorem reaches_applyStagedAt (i : OutId) (s : State) : Reaches s (applyStagedAt i s) := by
  unfold applyStagedAt
  split
  · rename_i x hx
    exact .single (.outputChanged i x x.applyStaged s hx rfl id id)
  · exact .refl

theorem reaches_endPulse (i : OutId) (s : State) : Reaches s (endPulse i s) :=
  (reaches_enterState i rfl s).trans (reaches_proofPulseEnd i _)

theorem reaches_releaseOne (s : State) (i : OutId) : Reaches s (releaseOne s i) := by
  unfold releaseOne
  split
  · split
    · exact (reaches_enterState i rfl s).trans (reaches_endProof i .abandoned (Nat.zero_le _) _)
    · exact reaches_endProof i .abandoned (Nat.zero_le _) s
  · exact .refl

theorem reaches_releaseEvery (s : State) : Reaches s (releaseEvery s) := Reaches.foldl reaches_releaseOne _ s

/-! ### What these leave of the drivers -/

/-- The outputs have the partners they had, and none is energised that was not, but for those in M. -/
structure DriversKept (M : OutId → Prop) (s t : State) : Prop where
  partner : ∀ i, (t.output i).map (fun x => x.cfg.partner) = (s.output i).map fun x => x.cfg.partner
  driver : ∀ i, t.driverOn i = true → s.driverOn i = true ∨ M i

theorem DriversKept.refl (M : OutId → Prop) (s : State) : DriversKept M s s := ⟨fun _ => rfl, fun _ => .inl⟩

theorem DriversKept.trans {M : OutId → Prop} {s t u : State} (h : DriversKept M s t) (k : DriversKept M t u) :
    DriversKept M s u where
  partner i := (k.partner i).trans (h.partner i)
  driver i hi := (k.driver i hi).elim (h.driver i) .inr

theorem DriversKept.of_outputs {M : OutId → Prop} {s t : State} (h : t.outputs = s.outputs) : DriversKept M s t where
  partner i := by rw [output_of_outputs h]
  driver i := by
    unfold State.driverOn
    rw [output_of_outputs h]
    exact .inl

theorem driverOn_of_output {s : State} {i : OutId} {x : Output} (h : s.output i = some x) :
    s.driverOn i = x.state.energised := by
  simp [State.driverOn, h]

theorem driversKept_setOutput {M : OutId → Prop} {i : OutId} {x y : Output} {s : State} (found : s.output i = some x)
    (partner : y.cfg.partner = x.cfg.partner) (driver : y.state.energised = true → x.state.energised = true ∨ M i) :
    DriversKept M s (s.setOutput i y) where
  partner j := by
    rw [output_setOutput]
    split
    · rename_i hj; subst hj; simp [found, partner]
    · rfl
  driver j hj := by
    by_cases h : j = i
    · subst h
      rw [driverOn_of_output (output_setOutput_same _ _ _)] at hj
      rw [driverOn_of_output found]
      exact driver hj
    · simpa [State.driverOn, output_setOutput, h] using Or.inl hj

theorem driversKept_request {M : OutId → Prop} (src : Source) (c : ReportClass) (s : State) :
    DriversKept M s (request src c s) := by
  obtain ⟨u, r, h⟩ := request_queuesOnly src c s
  exact .of_outputs (by rw [h])

theorem driversKept_postOutcome {M : OutId → Prop} (i : OutId) (x : ProofOutcome) (p : Proof) (time : Nat) (s : State) :
    DriversKept M s (postOutcome i x p time s) := by
  unfold postOutcome
  split
  · rename_i hx
    refine DriversKept.trans ?_ (driversKept_request _ _ _)
    exact driversKept_setOutput hx rfl .inl
  · exact .refl M s

theorem driversKept_endProof {M : OutId → Prop} (i : OutId) (x : ProofOutcome) (time : Nat) (s : State) :
    DriversKept M s (endProof i x time s) := by
  unfold endProof
  split
  · have ended : DriversKept M s (s.setProof i (s.proof i).ended) := .of_outputs rfl
    exact ended.trans (driversKept_postOutcome _ _ _ _ _)
  · exact .refl M s

theorem driversKept_startProof {M : OutId → Prop} (i : OutId) (kind : CmdKind) (s : State) :
    DriversKept M s (startProof i kind s) := by
  unfold startProof
  refine (driversKept_endProof i .abandoned 0 s).trans ?_
  dsimp only
  generalize endProof i .abandoned 0 s = t
  split
  · exact .refl M _
  · rename_i out _
    have begun : DriversKept M t (t.setProof i (newProof t out kind)) := .of_outputs rfl
    split
    · exact begun.trans (driversKept_postOutcome _ _ _ _ _)
    · exact begun

theorem driversKept_sampleDriver {M : OutId → Prop} (i : OutId) (s : State) : DriversKept M s (sampleDriver i s) := by
  unfold sampleDriver
  split
  · rename_i hx
    split
    · exact driversKept_setOutput hx rfl .inl
    · exact .refl M s
  · exact .refl M s

theorem driversKept_enterState {M : OutId → Prop} {i : OutId} (hi : M i) (st : OutState) (s : State) :
    DriversKept M s (enterState i st s) := by
  unfold enterState
  split
  · rename_i hx
    refine DriversKept.trans ?_ (driversKept_sampleDriver i _)
    exact driversKept_setOutput hx rfl fun _ => .inr hi
  · exact .refl M s

theorem driversKept_applyStagedAt {M : OutId → Prop} (i : OutId) (s : State) : DriversKept M s (applyStagedAt i s) := by
  unfold applyStagedAt
  split
  · rename_i hx
    exact driversKept_setOutput hx rfl .inl
  · exact .refl M s

theorem driversKept_pulseTo {M : OutId → Prop} {i : OutId} (hi : M i) (kind : CmdKind) (endTime : Time) (s : State) :
    DriversKept M s (pulseTo i kind endTime s) :=
  (driversKept_enterState hi _ s).trans (driversKept_startProof i kind _)

/-! ### Energising -/

/-- Output i may be energised along with M: a partner that names it in turn is outside M and not energised. -/
def Apart (M : OutId → Prop) (s : State) (i : OutId) : Prop :=
  ∀ j x y, s.output i = some x → x.cfg.partner = some j → s.output j = some y → y.cfg.partner = some i →
    ¬ M j ∧ y.state.energised = false

/-- While nothing outside M is newly energised the output may still be energised. -/
theorem Apart.kept {M : OutId → Prop} {s t : State} {i : OutId} (h : Apart M s i) (k : DriversKept M s t) :
    Apart M t i := by
  intro j x y hx hj hy hback
  have hxs := k.partner i
  have hys := k.partner j
  rw [hx, Option.map_some] at hxs
  rw [hy, Option.map_some] at hys
  obtain ⟨x0, hx0, hxp⟩ := Option.map_eq_some_iff.mp hxs.symm
  obtain ⟨y0, hy0, hyp⟩ := Option.map_eq_some_iff.mp hys.symm
  obtain ⟨hout, hoff⟩ := h j x0 y0 hx0 (hxp.trans hj) hy0 (hyp.trans hback)
  refine ⟨hout, Bool.eq_false_iff.mpr fun hon => ?_⟩
  rcases k.driver j (by rwa [driverOn_of_output hy]) with hwas | hin
  · rw [driverOn_of_output hy0, hoff] at hwas
    cases hwas
  · exact hout hin

theorem reaches_energise {M : OutId → Prop} {i : OutId} (st : OutState) {s : State} (running : s.partState = .running)
    (apart : Apart M s i) : Reaches s (enterState i st s) := by
  unfold enterState
  split
  · rename_i x hx
    refine (Relation.ReflTransGen.single (.energised i x st s running hx fun j y hj hy hback => ?_)).trans
      (reaches_sampleDriver i _)
    obtain ⟨-, off⟩ := apart j x y hx hj hy hback
    exact off
  · exact .refl

theorem reaches_pulseTo {M : OutId → Prop} {i : OutId} (kind : CmdKind) (endTime : Time) {s : State}
    (running : s.partState = .running) (apart : Apart M s i) : Reaches s (pulseTo i kind endTime s) :=
  (reaches_energise _ running apart).trans
    (reaches_startProof i kind ((partState_of_outputSide (enterState_outputSide i _ s)).trans running))

/-- An output that passes the exclusion check may be energised alone (R114). -/
theorem apart_of_not_excluded {i : OutId} {x : Output} {s : State} (found : s.output i = some x)
    (free : excluded s x = false) : Apart (fun _ => False) s i := by
  intro j z y hz hj hy _
  rw [found] at hz
  cases hz
  simp only [excluded, hj, Option.any_some, partnerBlocks, hy, Bool.or_eq_false_iff] at free
  obtain ⟨off, -⟩ := free
  exact ⟨id, off⟩

theorem reaches_pulse {i : OutId} {x : Output} {s : State} (running : s.partState = .running)
    (found : s.output i = some x) (free : excluded s x = false) : Reaches s (pulse i s) :=
  (reaches_applyStagedAt i s).trans
    (reaches_pulseTo .pulse _ ((partState_of_outputSide (applyStagedAt_outputSide i s)).trans running)
      ((apart_of_not_excluded found free).kept (driversKept_applyStagedAt i s)))

theorem reaches_latch {i : OutId} {x : Output} {s : State} (running : s.partState = .running)
    (found : s.output i = some x) (free : excluded s x = false) : Reaches s (latch i x s) := by
  have applied := partState_of_outputSide (applyStagedAt_outputSide i s)
  have latched : Reaches s (enterState i .latched (applyStagedAt i s)) :=
    (reaches_applyStagedAt i s).trans (reaches_energise _ (applied.trans running)
      ((apart_of_not_excluded found free).kept (driversKept_applyStagedAt i s)))
  unfold latch
  split
  · exact latched.trans (reaches_startProof i .latch
      ((partState_of_outputSide (enterState_outputSide i .latched _)).trans (applied.trans running)))
  · exact latched.trans (reaches_proofPulseEnd i _)
  · exact .refl
  · exact .refl

/-- The members of a Group Pulse, which have passed the tests of R119. -/
structure GroupAdmitted (s : State) (ms : List (OutId × Output)) : Prop where
  found : ∀ m ∈ ms, s.output m.1 = some m.2
  apart : partnersInGroup ms = false
  unblocked : blockedOutside s ms = false

theorem GroupAdmitted.apart_members {s : State} {ms : List (OutId × Output)} (h : GroupAdmitted s ms) {i : OutId}
    (hi : i ∈ ms.map Prod.fst) : Apart (· ∈ ms.map Prod.fst) s i := by
  obtain ⟨m, hm, rfl⟩ := List.mem_map.mp hi
  have hgroup := h.apart
  have houtside := h.unblocked
  simp only [partnersInGroup, List.any_eq_false, Bool.and_eq_true, decide_eq_true_eq, Bool.not_eq_true] at hgroup
  simp only [blockedOutside, List.any_eq_false, Bool.not_eq_true] at houtside
  intro j x y hx hj hy hback
  rw [h.found m hm] at hx
  cases hx
  have hnot : j ∉ ms.map Prod.fst := by
    intro hmem
    obtain ⟨k, hk, rfl⟩ := List.mem_map.mp hmem
    rw [h.found k hk] at hy
    cases hy
    exact hgroup m hm k hk ⟨hj, hback⟩
  have hblock := houtside m hm
  simp only [hj, Option.any_some, Bool.and_eq_false_iff, Bool.not_eq_false', List.contains_iff_mem, partnerBlocks, hy,
    Bool.or_eq_false_iff] at hblock
  exact ⟨hnot, (hblock.resolve_left hnot).1⟩

theorem reaches_pulseEach {M : OutId → Prop} (endTime : Time) : ∀ {l : List OutId} {s : State}, (∀ i ∈ l, M i) →
    s.partState = .running → (∀ i, M i → Apart M s i) →
    Reaches s (l.foldl (fun t i => pulseTo i .group endTime t) s)
  | [], _, _, _, _ => .refl
  | i :: l, s, hl, running, apart => by
    obtain ⟨hi, hrest⟩ := List.forall_mem_cons.mp hl
    have kept : DriversKept M s (pulseTo i .group endTime s) := driversKept_pulseTo hi .group endTime s
    exact (reaches_pulseTo .group endTime running (apart i hi)).trans
      (reaches_pulseEach endTime hrest
        ((partState_of_outputSide (pulseTo_outputSide i .group endTime s)).trans running)
        fun k hk => (apart k hk).kept kept)

theorem driversKept_applyStagedEach {M : OutId → Prop} : ∀ (l : List OutId) (s : State),
    DriversKept M s (l.foldl (fun t i => applyStagedAt i t) s)
  | [], s => .refl M s
  | i :: l, s => (driversKept_applyStagedAt i s).trans (driversKept_applyStagedEach l _)

theorem reaches_groupPulse {ms : List (OutId × Output)} (lengthMs : Nat) {s : State} (running : s.partState = .running)
    (admitted : GroupAdmitted s ms) : Reaches s (groupPulse (ms.map Prod.fst) lengthMs s) := by
  have applied : OutputSide s ((ms.map Prod.fst).foldl (fun t i => applyStagedAt i t) s) :=
    outputSide_foldl _ (fun t i => applyStagedAt_outputSide i t) _ s
  exact (Reaches.foldl (fun t i => reaches_applyStagedAt i t) _ s).trans
    (reaches_pulseEach (M := (· ∈ ms.map Prod.fst)) _ (fun _ => id)
      ((partState_of_outputSide applied).trans running)
      fun i hi => (admitted.apart_members hi).kept (driversKept_applyStagedEach _ s))

/-- Entering a state leaves the output defined. -/
theorem isSome_output_enterState {i : OutId} {s : State} (st : OutState) (h : (s.output i).isSome = true) :
    ((enterState i st s).output i).isSome = true := by
  obtain ⟨x, hx⟩ := Option.isSome_iff_exists.mp h
  unfold enterState sampleDriver
  simp only [hx, output_setOutput_same]
  split <;> simp

theorem isSome_output_endProof {i : OutId} {s : State} (x : ProofOutcome) (time : Nat)
    (h : (s.output i).isSome = true) : ((endProof i x time s).output i).isSome = true := by
  have kept := (driversKept_endProof (M := fun _ => False) i x time s).partner i
  rw [← Option.isSome_map, kept, Option.isSome_map]
  exact h

/-- A mismatch is held by a defined output, so the fault's report is requested for one. -/
theorem reaches_driverFault {i : OutId} {s : State} (due : driverFaultDue s i = true) :
    Reaches s (driverFault i s) := by
  obtain ⟨-, x, _, hx, -⟩ := (driverFaultDue_iff s i).mp due
  have found : ((endProof i .driverFault 0 (enterState i .faulted s)).output i).isSome = true :=
    isSome_output_endProof _ _ (isSome_output_enterState _ (by simp [hx]))
  exact ((reaches_enterState i rfl s).trans (reaches_endProof i .driverFault (Nat.zero_le _) _)).tail
    (.requested (.output i) .urgent _ found)

/-! ## Objects -/

/-- What follows the writing of an object's record: the proofs and the one request. -/
theorem reaches_applyStep (n : ObjId) (p : ObjStep) (s : State) : Reaches (s.setObject n p.obj) (applyStep n p s) := by
  have hn : ((s.setObject n p.obj).object n).isSome = true := by simp
  unfold applyStep
  dsimp only
  split <;> split
  · obtain ⟨_, _, _, _, _, same⟩ := notifyProofs_outputSide n ‹_› ‹_› (s.setObject n p.obj)
    refine (reaches_notifyProofs n _ _ _).tail (.requested (.object n) _ _ ?_)
    rw [same]
    exact hn
  · exact .single (.requested (.object n) _ _ hn)
  · exact reaches_notifyProofs n _ _ _
  · exact .refl

theorem reaches_changed {n : ObjId} {o : Obj} {p : ObjStep} {s : State} (found : s.object n = some o)
    (change : ObjectChange s o p.obj) : Reaches s (applyStep n p s) :=
  (Relation.ReflTransGen.single (.objectChanged n o p.obj s found change)).trans (reaches_applyStep n p s)

theorem reaches_settleIn {n : ObjId} {s : State} (due : settleDue s n = true) : Reaches s (settleIn n s) := by
  obtain ⟨o, ⟨running, found, live⟩, unproven, -⟩ := (settleDue_iff s n).mp due
  simp only [settleIn, live_eq_some.mpr ⟨found, live⟩]
  exact reaches_changed found (.settled running live unproven)

theorem reaches_transitExpired {n : ObjId} {s : State} (due : transitDue s n = true) :
    Reaches s (transitExpired n s) := by
  obtain ⟨o, ⟨running, found, live⟩, moving, d, hd, -⟩ := (transitDue_iff s n).mp due
  simp only [transitExpired, live_eq_some.mpr ⟨found, live⟩, hd]
  exact reaches_changed found (.transitEnded d running live moving)

theorem reaches_conflictExpired {n : ObjId} {s : State} (due : conflictDue s n = true) :
    Reaches s (conflictExpired n s) := by
  obtain ⟨o, ⟨running, found, live⟩, pending, d, hd, -⟩ := (conflictDue_iff s n).mp due
  simp only [conflictExpired, live_eq_some.mpr ⟨found, live⟩, hd]
  exact reaches_changed found (.conflictEnded d running live pending)

theorem reaches_steadyExpired {n : ObjId} {s : State} (due : steadyDue s n = true) : Reaches s (steadyExpired n s) := by
  obtain ⟨o, ⟨running, found, live⟩, coded, d, hd, -⟩ := (steadyDue_iff s n).mp due
  simp only [steadyExpired, live_eq_some.mpr ⟨found, live⟩, hd]
  exact reaches_changed found (.steadied _ d running live coded)

theorem reaches_boundaryAt (s : State) (n : ObjId) : Reaches s (boundaryAt s n) := by
  unfold boundaryAt
  split
  · exact reaches_changed (by assumption) .windowClosed
  · exact .refl

theorem reaches_boundary (s : State) : Reaches s (boundary s) := by
  have opened : Reaches s { s with window := s.window.map fun w => w.advance s.windowUnits } := Aside.reaches (by rfl)
  unfold boundary
  exact opened.trans (Reaches.foldl reaches_boundaryAt _ _)

theorem reaches_degradeOwner (p : PointId) (s : State) : Reaches s (degradeOwner p s) := by
  unfold degradeOwner
  split
  · split
    · exact reaches_changed (by assumption) .degraded
    · exact .refl
  · exact .refl

/-- No measurement is in progress any more. -/
theorem effect_discard (s : State) : Effect s { s with measure := none } := .measured s none (by simp)

theorem reaches_discardOfObject (n : ObjId) (s : State) : Reaches s (discardOfObject n s) := by
  unfold discardOfObject
  split
  · exact .single (effect_discard s)
  · exact .refl

theorem reaches_suspend {n : ObjId} {o : Obj} {s : State} (running : s.partState = .running)
    (found : s.object n = some o) (live : o.admission = .live) : Reaches s (suspend n o s) := by
  have hn : ((removeEntry (.object n) (discardOfObject n (s.setObject n o.suspend))).object n).isSome = true := by
    unfold discardOfObject
    split <;> exact congrArg Option.isSome (object_setObject_same s n o.suspend)
  exact (((Relation.ReflTransGen.single (.objectChanged n o _ s found (.suspended running live))).trans
    (reaches_discardOfObject n _)).tail (.entryRemoved (.object n) _)).tail (.requested (.object n) .routine _ hn)

/-! ### An accepted edge -/

/-- The owner, its records and the part state are as they stood before the edge. -/
theorem accepted_eq (p : PointId) (s : State) :
    ∃ m, accepted p s = { s with points := upd s.points p (s.point p).accept, measure := m } := by
  unfold accepted discardOnOpen
  split <;> exact ⟨_, rfl⟩

theorem owner_accepted (p : PointId) (s : State) : ((accepted p s).point p).owner = (s.point p).owner := by
  obtain ⟨m, h⟩ := accepted_eq p s
  rw [h]
  have at_p : (upd s.points p (s.point p).accept).get p = (s.point p).accept := upd_get_same _ _ _
  change ((upd s.points p (s.point p).accept).get p).owner = (s.point p).owner
  rw [at_p]
  rfl

theorem live_accepted (p : PointId) (s : State) (n : ObjId) : (accepted p s).live n = s.live n := by
  obtain ⟨m, h⟩ := accepted_eq p s
  rw [h]
  rfl

theorem partState_accepted (p : PointId) (s : State) : (accepted p s).partState = s.partState := by
  obtain ⟨m, h⟩ := accepted_eq p s
  rw [h]

theorem acceptEdge_eq (p : PointId) (s : State) :
    acceptEdge p s = deliverEdge p (s.point p).raw (s.point p).runStart (accepted p s) := rfl

/-- The edge is evaluated at a LIVE owner in RUNNING (R13). -/
theorem acceptEdge_heard {p : PointId} {n : ObjId} {o : Obj} {s : State} (running : s.partState = .running)
    (owner : (s.point p).owner = some n) (live : s.live n = some o) :
    acceptEdge p s = applyStep n (edgeAt p s o) (accepted p s) := by
  simp only [acceptEdge_eq, deliverEdge, partState_accepted, running, if_true, owner_accepted, owner, live_accepted, live,
    edgeAt]

/-- The edge is evaluated nowhere else (R13, R19, R35). -/
theorem acceptEdge_unheard {p : PointId} {s : State}
    (h : ∀ n o, s.partState = .running → (s.point p).owner = some n → s.live n ≠ some o) :
    acceptEdge p s = accepted p s := by
  rw [acceptEdge_eq, deliverEdge, partState_accepted, owner_accepted]
  split
  · rename_i running
    split
    · rename_i n owner
      rw [live_accepted]
      split
      · rename_i o live
        exact absurd live (h n o running owner)
      · rfl
    · rfl
  · rfl

theorem reaches_acceptEdge {p : PointId} {s : State} (due : edgeDue s p = true) : Reaches s (acceptEdge p s) := by
  by_cases h : ∃ n o, s.partState = .running ∧ (s.point p).owner = some n ∧ s.live n = some o
  · obtain ⟨n, o, running, owner, live⟩ := h
    rw [acceptEdge_heard running owner live]
    exact (Relation.ReflTransGen.single (.edgeHeard p n o s due running owner live)).trans (reaches_applyStep n _ _)
  · have unheard : ∀ n o, s.partState = .running → (s.point p).owner = some n → s.live n ≠ some o :=
      fun n o running owner live => h ⟨n, o, running, owner, live⟩
    rw [acceptEdge_unheard unheard]
    exact .single (.edgeUnheard p s due unheard)

/-! ## Sending -/

theorem reaches_transmit (f : Frame) (parts : List Frame) (r : Bool) (s : State) : Reaches s (transmit f parts r s) :=
  .single (.lineTaken s _)

theorem reaches_deliver {src : Source} {m : Marks} {at_ : Time} {s u : State} {f : Frame}
    (h : deliver src m at_ s = some (f, u)) : Reaches s u := by
  cases src with
  | object n =>
    obtain ⟨o, found, he⟩ := Option.map_eq_some_iff.mp h
    cases he
    exact .single (.objectChanged n o _ s found .delivered)
  | output i =>
    obtain ⟨x, found, he⟩ := Option.map_eq_some_iff.mp h
    cases he
    refine .single (.outputChanged i x x.delivered s found rfl id fun hx => ?_)
    obtain ⟨-, htime⟩ := hx
    exact ⟨Nat.zero_le _, htime⟩
  | part =>
    cases h
    exact Aside.reaches (by rfl)

theorem reaches_sendEntry (e : Entry) (urgent : Bool) (s : State) : Reaches s (sendEntry e urgent s) := by
  have removed : Reaches s (removeEntry e.source s) := .single (.entryRemoved _ s)
  unfold sendEntry
  dsimp only
  split
  · exact (removed.trans (reaches_deliver ‹_›)).trans (reaches_transmit _ _ _ _)
  · exact removed

theorem reaches_sendRecord (src : Source) (s : State) : Reaches s (sendRecord src s) := by
  have removed : Reaches s (removeEntry src s) := .single (.entryRemoved _ s)
  unfold sendRecord
  split
  · split
    · exact reaches_transmit _ _ _ s
    · exact .refl
  · dsimp only
    split
    · exact (removed.trans (reaches_deliver ‹_›)).trans (reaches_transmit _ _ _ _)
    · exact removed

theorem reaches_sendSnapshot (p : Snapshot) (s : State) : Reaches s (sendSnapshot p s) := by
  have moved : Reaches s { s with snapshot := some (p.advance s) } := .single (.snapshotMoved p s)
  unfold sendSnapshot
  dsimp only
  split
  · exact moved.trans (reaches_transmit _ _ _ _)
  · exact moved.trans (reaches_sendRecord _ _)
  · exact moved.trans (reaches_sendRecord _ _)
  · exact moved.trans (reaches_sendRecord _ _)
  · exact (Relation.ReflTransGen.single (.snapshotEnded s)).trans (reaches_transmit _ _ _ _)

theorem reaches_sendRoutine (s : State) : Reaches s (sendRoutine s) := by
  unfold sendRoutine
  split
  · exact reaches_sendSnapshot _ s
  · exact reaches_sendEntry _ _ s
  · exact .refl

theorem reaches_choose (s : State) : Reaches s (choose s) := by
  have zeroed : Reaches s { s with urgentRun := 0 } := .single (.runZeroed s)
  unfold choose
  split
  · exact (Relation.ReflTransGen.single (.answerSent s _ _ ‹_›)).trans (reaches_transmit _ _ _ _)
  · split
    · split
      · exact zeroed.trans (reaches_sendRoutine _)
      · rename_i below
        exact (Relation.ReflTransGen.single (.runCounted s (by simpa using below))).trans (reaches_sendEntry _ _ _)
    · exact reaches_sendEntry _ _ s
  · split
    · exact zeroed.trans (reaches_sendRoutine _)
    · exact .refl

theorem reaches_schedule (s : State) : Reaches s (schedule s) := by
  unfold schedule
  split
  · exact .refl
  · exact reaches_choose s

/-! ## START and the image load -/

theorem reaches_performStart {s : State} (early : s.partState ≠ .running) (passed : firstFailure s = none) :
    Reaches s (performStart s) := by
  have begun : Reaches s (startedState s) := .single (.started s early passed)
  unfold performStart
  exact begun.trans (Reaches.foldl (fun t i => reaches_sampleDriver i t) _ _)

/-! ## The receipt of a frame -/

theorem reaches_frameReceived (s : State) : Reaches s (frameReceived s) := by
  unfold frameReceived
  dsimp only
  split
  · split
    · exact (Aside.reaches (by rfl)).trans (reaches_requestPart .routine _)
    · exact Aside.reaches (by rfl)
  · exact Aside.reaches (by rfl)

theorem reaches_overrun (s : State) : Reaches s (overrun s) :=
  .single (.counted s _ (by simp) (by simp) (by simp) (by simp [satInc]))

theorem reaches_hunt (s : State) : Reaches s (hunt s) := Aside.reaches (by rfl)

/-! ## The messages -/

section Tests

variable {s : State} {f g : Executed}

theorem reaches_inConfiguring (h : s.partState = .configuring → Reaches s f.1) : Reaches s (inConfiguring s f).1 := by
  unfold inConfiguring
  split
  · exact .refl
  · exact .refl
  · exact h ‹_›

theorem reaches_inRunning (h : s.partState = .running → Reaches s f.1) : Reaches s (inRunning s f).1 := by
  unfold inRunning
  split
  · exact .refl
  · exact .refl
  · exact h ‹_›

theorem reaches_afterLoading (h : Reaches s f.1) : Reaches s (afterLoading s f).1 := by
  unfold afterLoading
  split
  · exact .refl
  · exact h
  · exact h

/-- A test of a message decides between two outcomes. -/
theorem reaches_ite {c : Prop} [Decidable c] (hf : c → Reaches s f.1) (hg : ¬ c → Reaches s g.1) :
    Reaches s (if c then f else g).1 := by
  split
  · exact hf ‹_›
  · exact hg ‹_›

theorem reaches_ite_state {c : Prop} [Decidable c] {t u : State} (ht : c → Reaches s t) (hu : ¬ c → Reaches s u) :
    Reaches s (if c then t else u) := by
  split
  · exact ht ‹_›
  · exact hu ‹_›

/-- An object found by a number byte is defined. -/
theorem object_of_findObject {b : Byte} {n : ObjId} {o : Obj} (h : s.findObject b = some (n, o)) :
    s.object n = some o := by
  unfold State.findObject at h
  split at h
  · rw [Option.map_eq_some_iff] at h
    obtain ⟨x, hx, he⟩ := h
    cases he
    exact hx
  · cases h

/-- An output found by a number byte is defined. -/
theorem output_of_findOutput {b : Byte} {i : OutId} {x : Output} (h : s.findOutput b = some (i, x)) :
    s.output i = some x := by
  unfold State.findOutput at h
  split at h
  · rw [Option.map_eq_some_iff] at h
    obtain ⟨y, hy, he⟩ := h
    cases he
    exact hy
  · cases h

theorem found_of_findMembers {names : List Byte} {ms : List (OutId × Output)} (h : findMembers s names = some ms) :
    ∀ m ∈ ms, s.output m.1 = some m.2 := by
  induction names generalizing ms with
  | nil => cases h; simp
  | cons b bs ih =>
    unfold findMembers at h
    split at h
    · rename_i m rest hm hrest
      cases h
      simp only [List.mem_cons, forall_eq_or_imp]
      exact ⟨output_of_findOutput hm, ih hrest⟩
    · cases h

end Tests

/-- Everything a control message does to the module is some of the effects. -/
def MessageReaches (m : Handler) : Prop := ∀ body s, Reaches s (m body s).1

/-! ### Definitions and settings -/

theorem defineObject_reaches : MessageReaches msgDefineObject := by
  intro body s
  refine reaches_inConfiguring fun hc => ?_
  split
  · unfold defined
    split
    · rename_i hd
      exact .single (.objectDefined _ s _ _ (by simp [hc]) hd)
    · exact .refl
  · exact .refl

theorem defineOutput_reaches : MessageReaches msgDefineOutput := by
  intro body s
  refine reaches_inConfiguring fun hc => ?_
  split
  · unfold defined
    split
    · rename_i hd
      exact .single (.outputDefined _ s _ _ (by simp [hc]) hd)
    · exact .refl
  · exact .refl

theorem setBands_reaches : MessageReaches msgSetBands := by
  intro body s
  refine reaches_inConfiguring fun _ => ?_
  split
  · split
    · exact Aside.reaches (by rfl)
    · exact .refl
  · exact .refl

theorem setGroup_reaches : MessageReaches msgSetGroup := by
  intro body s
  refine reaches_afterLoading ?_
  split
  · split
    · exact (Aside.reaches (s := s) (by rfl)).trans (reaches_ite_state (fun _ => .single (effect_discard _)) fun _ => .refl)
    · exact .refl
  · exact .refl

theorem setPartTiming_reaches : MessageReaches msgSetPartTiming := by
  intro body s
  refine reaches_afterLoading ?_
  split
  · exact reaches_ite (fun _ => .refl) fun _ => reaches_ite (fun _ => .refl) fun _ => Aside.reaches (by rfl)
  · exact .refl

theorem reaches_setRatio (mode : Option RatioMode) (s : State) : Reaches s (setRatio mode s) := by
  cases mode with
  | none => exact .refl
  | some m => exact (Relation.ReflTransGen.single (.runZeroed s)).trans (Aside.reaches (by rfl))

theorem reaches_setPosition (position : Option SummaryPos) (s : State) : Reaches s (setPosition position s) := by
  cases position with
  | none => exact .refl
  | some p => exact Aside.reaches (by rfl)

theorem setReporting_reaches : MessageReaches msgSetReporting := by
  intro body s
  refine reaches_afterLoading ?_
  split
  · refine reaches_ite (fun _ => .refl) fun _ => ?_
    split
    · exact (reaches_setRatio _ s).trans (reaches_setPosition _ _)
    · exact .refl
  · exact .refl

theorem setSurvey_reaches : MessageReaches msgSetSurvey := by
  intro body s
  refine reaches_afterLoading ?_
  split
  · exact reaches_ite (fun _ => .refl) fun _ => Aside.reaches (by rfl)
  · exact .refl

/-! ### Adjustments, START and suspension -/

theorem adjustObject_reaches : MessageReaches msgAdjustObject := by
  intro body s
  refine reaches_inRunning fun _ => ?_
  split
  · refine reaches_ite (fun _ => .refl) fun _ => ?_
    split
    · rename_i hf
      exact reaches_ite (fun _ => .refl) fun _ => reaches_changed (object_of_findObject hf) (.adjusted _)
    · exact .refl
  · exact .refl

theorem adjustOutput_reaches : MessageReaches msgAdjustOutput := by
  intro body s
  refine reaches_inRunning fun _ => ?_
  split
  · refine reaches_ite (fun _ => .refl) fun _ => ?_
    split
    · rename_i hf
      exact .single (.outputChanged _ _ _ s (output_of_findOutput hf) rfl id id)
    · exact .refl
  · exact .refl

theorem start_reaches : MessageReaches msgStart := by
  intro body s
  refine reaches_inConfiguring fun hc => reaches_ite (fun _ => .refl) fun _ => ?_
  split
  · exact .refl
  · rename_i hp
    simp only [done]
    exact reaches_performStart (by simp [hc]) hp

theorem suspendObject_reaches : MessageReaches msgSuspendObject := by
  intro body s
  refine reaches_inRunning fun hr => ?_
  split
  · split
    · rename_i hf
      exact reaches_ite_state (fun hl => reaches_suspend hr (object_of_findObject hf) hl) fun _ => .refl
    · exact .refl
  · exact .refl

theorem resumeObject_reaches : MessageReaches msgResumeObject := by
  intro body s
  refine reaches_inRunning fun hr => ?_
  split
  · split
    · rename_i hf
      exact reaches_ite_state (fun ha => reaches_changed (object_of_findObject hf) (.resumed _ hr ha)) fun _ => .refl
    · exact .refl
  · exact .refl

/-! ### Outputs -/

theorem pulseOutput_reaches : MessageReaches msgPulseOutput := by
  intro body s
  refine reaches_inRunning fun hr => ?_
  split
  · split
    · rename_i hf
      refine reaches_ite (fun _ => .refl) fun _ => reaches_ite (fun _ => .refl) fun _ => ?_
      exact reaches_ite (fun _ => .refl) fun he => reaches_pulse hr (output_of_findOutput hf) (by simpa using he)
    · exact .refl
  · exact .refl

theorem latchOutput_reaches : MessageReaches msgLatchOutput := by
  intro body s
  refine reaches_inRunning fun hr => ?_
  split
  · split
    · rename_i hf
      refine reaches_ite (fun _ => .refl) fun _ => reaches_ite (fun _ => .refl) fun _ => ?_
      exact reaches_ite (fun _ => .refl) fun he => reaches_latch hr (output_of_findOutput hf) (by simpa using he)
    · exact .refl
  · exact .refl

theorem release_reaches {i : OutId} {x : Output} {s : State} (found : s.output i = some x) :
    Reaches s (release i x s).1 := by
  unfold release
  split
  · exact .refl
  · exact reaches_endPulse i s
  · exact reaches_enterState i rfl s
  · refine reaches_ite (fun _ => .refl) fun _ => ?_
    exact (reaches_enterState i rfl s).tail
      (.requested (.output i) .routine _ (isSome_output_enterState .off (by simp [found])))

theorem releaseOutput_reaches : MessageReaches msgReleaseOutput := by
  intro body s
  refine reaches_inRunning fun _ => ?_
  split
  · split
    · exact release_reaches (output_of_findOutput ‹_›)
    · exact .refl
  · exact .refl

theorem groupPulse_reaches : MessageReaches msgGroupPulse := by
  intro body s
  refine reaches_inRunning fun hr => ?_
  split
  · split
    · rename_i hf
      refine reaches_ite (fun _ => .refl) fun _ => reaches_ite (fun _ => .refl) fun _ => ?_
      refine reaches_ite (fun _ => .refl) fun hb => reaches_groupPulse _ hr ?_
      simp only [Bool.or_eq_true, not_or, Bool.not_eq_true] at hb
      exact ⟨found_of_findMembers hf, hb.1, hb.2⟩
    · exact .refl
  · exact .refl

theorem releaseAll_reaches : MessageReaches msgReleaseAll := by
  intro body s
  refine reaches_inRunning fun _ => reaches_ite (fun _ => .refl) fun _ => ?_
  simp only [done]
  exact reaches_releaseEvery s

/-! ### Snapshot, reads, image store and reset -/

theorem snapshot_reaches : MessageReaches msgSnapshot := fun _ s =>
  reaches_inRunning fun _ => reaches_ite (fun _ => .refl) fun _ => reaches_ite (fun _ => .refl) fun _ =>
    .single (.snapshotBegun s _)

theorem readObject_reaches : MessageReaches msgReadObject := by
  intro body s
  refine reaches_afterLoading ?_
  split
  · split <;> exact .refl
  · exact .refl

theorem readOutput_reaches : MessageReaches msgReadOutput := by
  intro body s
  refine reaches_afterLoading ?_
  split
  · split <;> exact .refl
  · exact .refl

theorem readPoints_reaches : MessageReaches msgReadPoints := by
  intro body s
  refine reaches_afterLoading ?_
  split <;> exact .refl

theorem healthInRange_cleared {h : Health} (hr : HealthInRange h) : HealthInRange h.cleared :=
  ⟨hr.last, Nat.zero_le _, Nat.zero_le _, hr.overCount⟩

theorem reaches_clearHealth (points : List PointId) (s : State) : Reaches s (clearHealth points s) :=
  Reaches.foldl (fun s p => .single (.healthSet p _ s healthInRange_cleared)) points s

theorem readHealth_reaches : MessageReaches msgReadHealth := by
  intro body s
  refine reaches_afterLoading ?_
  split
  · split
    · exact reaches_ite_state (fun _ => reaches_clearHealth _ s) fun _ => .refl
    · exact .refl
  · exact .refl

theorem readClock_reaches : MessageReaches msgReadClock := fun _ _ => reaches_ite (fun _ => .refl) fun _ => .refl

theorem readStatus_reaches : MessageReaches msgReadStatus := fun _ s =>
  reaches_ite (fun _ => .refl) fun _ =>
    .single (.counted s _ (Nat.zero_le _) (Nat.zero_le _) (Nat.zero_le _) (Nat.zero_le _))

theorem reaches_beginStore (copy : Option Image) (s : State) : Reaches s (beginStore copy s) := Aside.reaches (by rfl)

theorem storeImage_reaches : MessageReaches msgStoreImage := by
  intro body s
  refine reaches_afterLoading (reaches_ite (fun _ => .refl) fun _ => ?_)
  split
  · exact reaches_ite (fun _ => reaches_beginStore _ s) fun _ => reaches_ite (fun _ => reaches_beginStore _ s) fun _ =>
      reaches_ite (fun _ => reaches_beginStore _ s) fun _ => .refl
  · exact .refl

theorem reset_reaches : MessageReaches msgReset := fun _ _ =>
  reaches_afterLoading (reaches_ite (fun _ => .refl) fun _ => Aside.reaches (by rfl))

theorem unknown_reaches : MessageReaches msgUnknown := fun _ _ => .refl

theorem handlers_reach : ∀ m ∈ handlers, MessageReaches m := by
  simp only [handlers, List.mem_append, List.mem_cons, List.not_mem_nil, or_false]
  rintro m ((rfl | rfl | rfl | rfl | rfl | rfl | rfl | rfl | rfl | rfl | rfl | rfl | rfl | rfl) |
    (rfl | rfl | rfl | rfl | rfl | rfl | rfl | rfl | rfl | rfl | rfl | rfl | rfl))
  exacts [defineObject_reaches, defineOutput_reaches, setBands_reaches, setGroup_reaches, setPartTiming_reaches,
    setReporting_reaches, setSurvey_reaches, adjustObject_reaches, adjustOutput_reaches, start_reaches,
    suspendObject_reaches, resumeObject_reaches, pulseOutput_reaches, latchOutput_reaches, releaseOutput_reaches,
    groupPulse_reaches, releaseAll_reaches, snapshot_reaches, readObject_reaches, readOutput_reaches,
    readPoints_reaches, readHealth_reaches, readClock_reaches, readStatus_reaches, storeImage_reaches, reset_reaches,
    unknown_reaches]

theorem reaches_execute {type : Byte} {m : Handler} (hm : m ∈ handlers) (body : List Byte) {s : State}
    (room : s.answers.length < 4) : Reaches s (execute type m body s) := by
  have kept := GoodFrames.handlers_keepAnswers m hm body s
  exact (handlers_reach m hm body s).tail (.answered _ _ (by rwa [kept]))

theorem reaches_receive {type : Byte} {m : Handler} (hm : m ∈ handlers) (body : List Byte) (s : State) :
    Reaches s (receive type m body s) := by
  refine (reaches_frameReceived s).trans (reaches_ite_state (fun _ => reaches_overrun _) fun hroom => ?_)
  exact reaches_execute hm body (Nat.lt_of_not_le hroom)

/-! ## The receiver -/

theorem reaches_completeFrame (kept : List (Byte × Time)) (s : State) : Reaches s (completeFrame kept s).1 := by
  unfold completeFrame
  split
  · split
    · exact (reaches_hunt s).trans (reaches_receive (handlerOf_mem _) _ _)
    · exact reaches_hunt s
  · exact (reaches_hunt s).tail (.counted _ _ (by simp) (by simp [satInc]) (by simp) (by simp))

theorem reaches_takeByte (b : Byte) (at_ : Time) (s : State) : Reaches s (takeByte b at_ s).1 := by
  unfold takeByte
  split
  · exact .refl
  · split
    · split
      · exact Aside.reaches (by rfl)
      · exact .refl
    · split
      · exact (reaches_hunt s).tail (.counted _ _ (by simp [satInc]) (by simp) (by simp) (by simp))
      · exact Aside.reaches (by rfl)
    · dsimp only
      split
      · exact reaches_completeFrame _ s
      · exact Aside.reaches (by rfl)

theorem reaches_takeBytes : ∀ (work : Nat) (bytes : List (Byte × Time)) (s : State), Reaches s (takeBytes work bytes s)
  | 0, _, _ => .refl
  | n + 1, [], s => by
    unfold takeBytes
    split
    · exact ((reaches_hunt s).tail (.counted _ _ (by simp) (by simp) (by simp [satInc]) (by simp))).trans
        (reaches_takeBytes n _ _)
    · exact .refl
  | n + 1, x :: xs, s => ((reaches_takeByte x.1 x.2 s).trans (reaches_schedule _)).trans (reaches_takeBytes n _ _)

/-! ## The events -/

theorem reaches_postDeskSilence (s : State) : Reaches s (postDeskSilence s) :=
  (Aside.reaches (by rfl)).trans (reaches_requestPart .urgent _)

theorem reaches_silenceExpired (s : State) : Reaches s (silenceExpired s) := by
  unfold silenceExpired
  have silent : Reaches s { s with deskSilent := true, silenceDeadline := none } := Aside.reaches (by rfl)
  exact (silent.trans (reaches_releaseEvery _)).trans (reaches_postDeskSilence _)

theorem reaches_attempt (s : State) : Reaches s (attempt s) := by
  unfold attempt
  dsimp only
  split
  · rename_i p _
    have begun : Reaches s { s with
        measure := some { phase := .reference, point := p, start := s.nextAttempt.getD s.clock } } :=
      .single (.measured s _ (by rintro m c ⟨⟩ hm; cases hm))
    exact begun.trans (Aside.reaches (by rfl))
  · exact Aside.reaches (by rfl)

theorem reaches_judgeReference (m : Measurement) {count : Nat} (bound : count ≤ 65535) (s : State) :
    Reaches s (judgeReference m count s) := by
  unfold judgeReference
  dsimp only
  split
  · split
    · exact .single (effect_discard s)
    · exact ((Relation.ReflTransGen.single (effect_discard s)).trans (Aside.reaches (by rfl))).trans
        (reaches_requestPart .urgent _)
  · have taken : Reaches s { s with measure := some { m with phase := .point count } } :=
      .single (.measured s _ (by rintro _ c ⟨⟩ ⟨⟩; exact bound))
    split
    · exact (taken.trans (Aside.reaches (by rfl))).trans (reaches_requestPart .routine _)
    · exact taken

theorem loopResistance_le (refRes refCount pointCount : Nat) : loopResistance refRes refCount pointCount ≤ 65535 := by
  unfold loopResistance
  split
  · exact le_refl _
  · exact sat16_le _

theorem healthInRange_measured {h : Health} {r : Nat} (hr : HealthInRange h) (bound : r ≤ 65535)
    (settings : SurveySettings) : HealthInRange (h.measured settings r) := by
  have highest : max h.highest r ≤ 65535 := max_le hr.highest bound
  unfold Health.measured Health.judge
  split
  · exact ⟨bound, highest, satInc_le, satInc_le⟩
  · split <;> exact ⟨bound, highest, satInc_le, Nat.zero_le _⟩

theorem reaches_completeMeasurement (m : Measurement) (refCount count : Nat) (s : State) :
    Reaches s (completeMeasurement m refCount count s) := by
  have taken : Reaches s ({ s with measure := none }.setHealth m.point ((s.healthOf m.point).measured s.surveySet
      (loopResistance (s.group (groupOf m.point)).refRes refCount (sat16 count)))) :=
    (Relation.ReflTransGen.single (effect_discard s)).tail
      (.healthSet m.point _ _ fun h => healthInRange_measured h (loopResistance_le _ _ _) _)
  exact reaches_ite_state (fun _ => taken) fun _ => taken.trans (reaches_degradeOwner m.point _)

/-! ### The image load -/

theorem partState_addObject (n : ObjId) (d : ObjDef) (s : State) : (addObject n d s).partState = s.partState := by
  unfold addObject
  generalize hs : s.setObject n (Obj.define d) = t
  have ht : t.partState = s.partState := by rw [← hs]; rfl
  rw [← ht]
  clear hs ht
  induction d.points generalizing t with
  | nil => rfl
  | cons p ps ih => exact ih (own n t p)

/-- An accepted definition of an object, with what the tests of R18 have found. -/
theorem defineObjectForm_ok {f : ObjectForm} {s t : State} {moved : Bool}
    (h : defineObjectForm f s = .ok (t, moved)) : ∃ k urgent n, f.kindOf = some k ∧ flagOfByte f.urgent = some urgent
      ∧ objectNumber f.number = some n ∧ s.object n = none
      ∧ (∀ p ∈ (f.definition k urgent).cfg.points, (s.point p).owner = none)
      ∧ t = addObject n (f.definition k urgent).cfg s ∧ moved = (f.definition k urgent).moved := by
  unfold defineObjectForm at h
  split at h
  · rename_i k urgent hk hu
    split at h
    · cases h
    · rename_i n hn
      dsimp only at h
      split at h
      · cases h
      · rename_i hfree
        cases h
        simp only [Bool.or_eq_true, not_or, Option.isSome_iff_ne_none, not_not, List.any_eq_true, not_exists, not_and,
          State.owned] at hfree
        obtain ⟨hnew, hpoints⟩ := hfree
        exact ⟨k, urgent, n, hk, hu, hn, hnew, hpoints, rfl, rfl⟩
  · cases h

/-- An accepted definition of an output, with what the tests of R111 have found. -/
theorem defineOutputForm_ok {f : OutputForm} {s t : State} {moved : Bool}
    (h : defineOutputForm f s = .ok (t, moved)) : ∃ i, f.badForm = false ∧ f.outOfRange = false
      ∧ outputNumber f.number = some i ∧ s.output i = none
      ∧ t = (s.setOutput i (Output.define f.definition.cfg)).setProof i Proof.reset ∧ moved = f.definition.moved := by
  unfold defineOutputForm at h
  split_ifs at h with hbad hrange
  split at h
  · cases h
  · rename_i i hi
    split_ifs at h with hdef
    cases h
    exact ⟨i, by simpa using hbad, by simpa using hrange, hi, by simpa using hdef, rfl, rfl⟩

theorem reaches_defineObjects : ∀ {fs : List ObjectForm} {s t : State}, s.partState ≠ .running →
    defineObjects fs s = some t → Reaches s t ∧ t.partState = s.partState
  | [], _, _, _, h => by cases h; exact ⟨.refl, rfl⟩
  | f :: fs, s, t, early, h => by
    unfold defineObjects at h
    split at h
    · rename_i u _ hd
      obtain ⟨_, _, n, -, -, -, -, -, hu, -⟩ := defineObjectForm_ok hd
      have hp : u.partState = s.partState := hu ▸ partState_addObject n _ s
      obtain ⟨more, same⟩ := reaches_defineObjects (by rwa [hp]) h
      exact ⟨(Relation.ReflTransGen.single (.objectDefined f s u _ early hd)).trans more, same.trans hp⟩
    · cases h

theorem reaches_defineOutputs : ∀ {fs : List OutputForm} {s t : State}, s.partState ≠ .running →
    defineOutputs fs s = some t → Reaches s t ∧ t.partState = s.partState
  | [], _, _, _, h => by cases h; exact ⟨.refl, rfl⟩
  | f :: fs, s, t, early, h => by
    unfold defineOutputs at h
    split at h
    · rename_i u _ hd
      obtain ⟨i, -, -, -, -, hu, -⟩ := defineOutputForm_ok hd
      have hp : u.partState = s.partState := hu ▸ rfl
      obtain ⟨more, same⟩ := reaches_defineOutputs (by rwa [hp]) h
      exact ⟨(Relation.ReflTransGen.single (.outputDefined f s u _ early hd)).trans more, same.trans hp⟩
    · cases h

theorem reaches_loadedImage {s : State} {img : Image} {t : State} (early : s.partState ≠ .running)
    (h : loadedImage s = some (img, t)) : Reaches s t ∧ t.partState = s.partState := by
  simp only [loadedImage, Option.bind_eq_some_iff, Option.map_eq_some_iff, Prod.mk.injEq] at h
  obtain ⟨_, -, u, happly, -, rfl⟩ := h
  unfold applyImage at happly
  split at happly
  · cases happly
  · obtain ⟨v, hobjects, houtputs⟩ := Option.bind_eq_some_iff.mp happly
    obtain ⟨first, p1⟩ := reaches_defineObjects (s := applySettings _ _ s) early hobjects
    obtain ⟨second, p2⟩ := reaches_defineOutputs (by rw [p1]; exact early) houtputs
    exact ⟨((Aside.reaches (by rfl)).trans first).trans second, p2.trans p1⟩

theorem reaches_loadEnd (responds : Bool) {s : State} (loading : s.partState = .loading) :
    Reaches s (loadEnd responds s) := by
  refine reaches_ite_state (fun _ => .single (.configured .noImage s loading)) fun _ =>
    reaches_ite_state (fun _ => .single (.configured .imageBad s loading)) fun _ => ?_
  split
  · exact .single (.configured .imageBad s loading)
  · rename_i img t hload
    obtain ⟨applied, same⟩ := reaches_loadedImage (by simp [loading]) hload
    have hl : t.partState = .loading := same.trans loading
    refine applied.trans (reaches_ite_state (fun _ => ?_) fun _ => .single (.configured .loaded t hl))
    split
    · rename_i passed
      have loaded : Reaches t { t with imageStatus := .loaded } := Aside.reaches (by rfl)
      exact loaded.trans (reaches_performStart (by simp [hl]) passed)
    · exact .single (.configured .startFailed t hl)

theorem reaches_storeEnded (good : Bool) (job : StoreJob) (s : State) : Reaches s (storeEnded good job s) :=
  reaches_ite_state (fun _ => (Aside.reaches (by rfl)).trans (reaches_requestPart .routine _))
    fun _ => (Aside.reaches (by rfl)).trans (reaches_requestPart .urgent _)

theorem reaches_frameFinished (x : Transmission) (s : State) : Reaches s (frameFinished x s) := by
  unfold frameFinished
  split
  · exact .single (.lineTaken s _)
  · exact reaches_ite_state (fun _ => .single (.resetTaken s)) fun _ => .single (.lineTaken s none)

/-! ## The shape of a step -/

/-- How a step ends: the module stands as it was but for the clock and the queue of commands, or the scheduler has
chosen after some effects, or a reset has been taken or has ended. -/
inductive StepShape (s : State) : State → Prop where
  | still {t : State} (h : Aside s t) : StepShape s t
  | chosen {u : State} (h : Reaches s u) : StepShape s (schedule u)
  | resetTaken {u : State} (h : Aside s u) : StepShape s (takeReset u)
  | resetEnded {u : State} (h : Aside s u) (straps : BitVec 2) (contacts : BitVec 256) (held : u.inReset = true) :
      StepShape s (endReset straps contacts u)

theorem StepShape.of_aside {s u t : State} (h : Aside s u) : StepShape u t → StepShape s t
  | .still k => by
    refine .still ?_
    unfold Aside at h k ⊢
    rw [h] at k
    exact k
  | .chosen k => .chosen (h.reaches.trans k)
  | .resetTaken k => by
    refine .resetTaken ?_
    unfold Aside at h k ⊢
    rw [h] at k
    exact k
  | .resetEnded k straps contacts held => by
    refine .resetEnded ?_ straps contacts held
    unfold Aside at h k ⊢
    rw [h] at k
    exact k

theorem shape_same (s : State) : StepShape s s := .still (by rfl)

theorem shape_finish {s u t : State} (reaches : Reaches s u) (h : finish u = .next t) : StepShape s t := by
  cases h
  exact .chosen reaches

theorem shape_whenDue {due : Bool} {f : State → State} {s t : State} (reaches : due = true → Reaches s (f s))
    (h : whenDue due f s = .next t) : StepShape s t := by
  unfold whenDue at h
  split at h
  · rename_i hd
    exact shape_finish (reaches (by simp_all)) h
  · cases h
    exact shape_same s

theorem shape_controlMessage {type : Byte} {m : Handler} (hm : m ∈ handlers) {body : List Byte} {s t : State}
    (h : controlMessage type m body s = .next t) : StepShape s t := by
  unfold controlMessage at h
  split at h
  · cases h
    exact shape_same s
  · exact shape_finish ((reaches_hunt s).trans (reaches_receive hm body _)) h

theorem exec_shape {i : Instr} {s t : State} (h : exec i s = .next t) : StepShape s t := by
  cases i <;> simp only [exec] at h
  case unknownType type body =>
    unfold execUnknownType at h
    split at h
    · cases h; exact shape_same s
    · exact shape_controlMessage (by simp [handlers]) h
  case lengthError => exact shape_whenDue (fun _ => reaches_takeBytes _ _ s) h
  case checkError => exact shape_whenDue (fun _ => reaches_takeBytes _ _ s) h
  case frameAbandon => exact shape_whenDue (fun _ => reaches_takeBytes _ _ s) h
  case byteTaken =>
    unfold execByteTaken at h
    split at h
    · cases h; exact shape_same s
    · exact shape_finish (reaches_takeBytes _ _ s) h
  case rawTransition p => exact shape_whenDue (fun _ => .single (.rawTransition p s)) h
  case edgeAccept p => exact shape_whenDue (fun due => reaches_acceptEdge due) h
  case settleInDeadline n => exact shape_whenDue (fun due => reaches_settleIn due) h
  case transitDeadline n => exact shape_whenDue (fun due => reaches_transitExpired due) h
  case conflictDeadline n => exact shape_whenDue (fun due => reaches_conflictExpired due) h
  case steadyDeadline n => exact shape_whenDue (fun due => reaches_steadyExpired due) h
  case chatterBoundary => exact shape_whenDue (fun _ => reaches_boundary s) h
  case pulseEnd i => exact shape_whenDue (fun _ => reaches_endPulse i s) h
  case readbackChange i on => exact shape_finish (reaches_setReadback i on s) h
  case driverCheckFault i => exact shape_whenDue (fun due => reaches_driverFault due) h
  case proofDeadline i => exact shape_whenDue (fun _ => reaches_endProof i .unproven (Nat.zero_le _) s) h
  case silenceDeadline => exact shape_whenDue (fun _ => reaches_silenceExpired s) h
  case surveyAttempt => exact shape_whenDue (fun _ => reaches_attempt s) h
  case referenceGateEnd =>
    unfold execReferenceGateEnd at h
    split at h
    · exact shape_whenDue (fun _ => reaches_judgeReference _ (sat16_le _) s) h
    · cases h; exact shape_same s
  case pointGateEnd =>
    unfold execPointGateEnd at h
    split at h
    · exact shape_whenDue (fun _ => reaches_completeMeasurement _ _ _ s) h
    · cases h; exact shape_same s
  case imageLoadEnd => exact shape_whenDue (fun due => reaches_loadEnd _ (by simpa using due)) h
  case storeEnd =>
    unfold execStoreEnd at h
    split at h
    · exact shape_whenDue (fun _ => reaches_storeEnded _ _ s) h
    · cases h; exact shape_same s
  case frameSent =>
    unfold execFrameSent at h
    split at h
    · exact shape_whenDue (fun _ => reaches_frameFinished _ s) h
    · cases h; exact shape_same s
  case resetTaken => cases h; exact .resetTaken (by rfl)
  case resetEnd straps contacts =>
    unfold execResetEnd at h
    split at h
    · cases h; exact .resetEnded (by rfl) straps contacts ‹_›
    · cases h; exact shape_same s
  case lampFlash => exact shape_whenDue (fun _ => Aside.reaches (by rfl)) h
  all_goals exact shape_controlMessage (by simp [handlers]) h

/-- Every step has one of the shapes. -/
theorem step_shape {s t : State} (h : step s = .next t) : StepShape s t := by
  unfold step at h
  split at h
  · exact (exec_shape h).of_aside (by rfl)
  · unfold tick at h
    split at h
    · cases h; exact shape_same s
    · split at h
      · cases h; exact .still (by rfl)
      · exact (exec_shape h).of_aside (by rfl)

theorem StepShape.reaches {s t : State} : StepShape s t → Reaches s t
  | .still h => h.reaches
  | .chosen h => h.trans (reaches_schedule _)
  | .resetTaken h => h.reaches.tail (.resetTaken _)
  | .resetEnded h straps contacts held => h.reaches.tail (.resetEnded straps contacts _ held)

/-- An invariant that every effect keeps is kept by every step. -/
theorem step_keeps {I : State → Prop} (keeps : ∀ {s t}, Effect s t → I s → I t) {s t : State} (hs : I s)
    (h : step s = .next t) : I t :=
  (step_shape h).reaches.keeps keeps hs

end Sys2Proof.Proofs.Effects
end

section
/-! The queues and the transmitter (sections 6.1 and 6.4): no source is queued twice, the queues and the snapshot name
defined sources, and the transmitter is idle only when nothing waits. -/

namespace Sys2Proof.Proofs.Queues

open Sys2Proof.Machine Sys2Proof.Safety Sys2Proof.Laws Sys2Proof.Proofs.Effects

/-! ## What an effect does to the sources of reports -/

/-- No source is queued twice that was not, every source that was defined is defined, and what is newly queued or newly
under the snapshot's cursor is defined. -/
structure Sourced (s t : State) : Prop where
  once : EachSourceOnce s → EachSourceOnce t
  defined : ∀ src, SourceDefined s src → SourceDefined t src
  queued : ∀ e ∈ t.urgent ++ t.routine,
    (∃ f ∈ s.urgent ++ s.routine, f.source = e.source) ∨ SourceDefined t e.source
  snapshot : ∀ p src, t.snapshot = some p → p.cursor.source = some src → s.snapshot = some p ∨ SourceDefined t src

theorem Sourced.trans {s t u : State} (h : Sourced s t) (k : Sourced t u) : Sourced s u where
  once := k.once ∘ h.once
  defined src := k.defined src ∘ h.defined src
  queued e he := by
    rcases k.queued e he with ⟨f, hf, hfe⟩ | hd
    · rw [← hfe]
      exact (h.queued f hf).imp_right (k.defined _)
    · exact .inr hd
  snapshot p src hp hsrc := by
    rcases k.snapshot p src hp hsrc with ht | hd
    · exact (h.snapshot p src ht hsrc).imp_right (k.defined _)
    · exact .inr hd

/-- The queues and the snapshot stand as they stood, and what was defined is defined. -/
theorem Sourced.of_same {s t : State} (hu : t.urgent = s.urgent) (hr : t.routine = s.routine)
    (hs : t.snapshot = s.snapshot) (ho : ∀ n, (s.object n).isSome = true → (t.object n).isSome = true)
    (hx : ∀ i, (s.output i).isSome = true → (t.output i).isSome = true) : Sourced s t where
  once h := by
    unfold EachSourceOnce
    rwa [hu, hr]
  defined src := by
    cases src with
    | object n => exact ho n
    | output i => exact hx i
    | part => exact id
  queued e he := by
    rw [hu, hr] at he
    exact .inl ⟨e, he, rfl⟩
  snapshot p src hp _ := by
    rw [hs] at hp
    exact .inl hp

theorem Sourced.refl (s : State) : Sourced s s := .of_same rfl rfl rfl (fun _ => id) fun _ => id

/-- A change that is not about the queues, the snapshot, the objects or the outputs. -/
theorem Sourced.of_fields {s t : State} (hu : t.urgent = s.urgent) (hr : t.routine = s.routine)
    (hs : t.snapshot = s.snapshot) (ho : t.objects = s.objects) (hx : t.outputs = s.outputs) : Sourced s t :=
  .of_same hu hr hs (fun n => by rw [object_of_objects ho n]; exact id) fun i => by rw [output_of_outputs hx i]; exact id

theorem Sourced.foldl {α : Type} {f : State → α → State} (h : ∀ s a, Sourced s (f s a)) :
    ∀ (l : List α) (s : State), Sourced s (l.foldl f s)
  | [], s => .refl s
  | a :: l, s => (h s a).trans (Sourced.foldl h l (f s a))

/-! ## The operations -/

theorem sourced_setObject (n : ObjId) (o : Obj) (s : State) : Sourced s (s.setObject n o) :=
  .of_same rfl rfl rfl (fun m hm => by rw [object_setObject]; split <;> simp_all) fun _ => id

theorem sourced_setOutput (i : OutId) (x : Output) (s : State) : Sourced s (s.setOutput i x) :=
  .of_same rfl rfl rfl (fun _ => id) fun j hj => by rw [output_setOutput]; split <;> simp_all

theorem sourced_setProof (i : OutId) (p : Proof) (s : State) : Sourced s (s.setProof i p) :=
  .of_fields rfl rfl rfl rfl rfl

theorem sourced_request {src : Source} {s : State} (h : SourceDefined s src) (c : ReportClass) :
    Sourced s (request src c s) where
  once := request_eachSourceOnce src c
  defined _ := sourceDefined_request.mpr
  queued e he := by
    refine request_all (P := fun k => (∃ f ∈ s.urgent ++ s.routine, f.source = k) ∨ SourceDefined (request src c s) k)
      (.inr (sourceDefined_request.mpr h)) c (fun f hf => .inl ⟨f, hf, rfl⟩) e he
  snapshot p k hp _ := by
    obtain ⟨u, r, hq⟩ := request_queuesOnly src c s
    rw [hq] at hp
    exact .inl hp

theorem sourced_removeEntry (src : Source) (s : State) : Sourced s (removeEntry src s) where
  once := removeEntry_eachSourceOnce src
  defined k := by cases k <;> exact id
  queued e he := by
    refine .inl ⟨e, ?_, rfl⟩
    rw [removeEntry_urgent, removeEntry_routine, List.mem_append] at he
    exact List.mem_append.mpr (he.imp List.mem_of_mem_filter List.mem_of_mem_filter)
  snapshot _ _ hp _ := .inl hp

/-! ### The snapshot's cursor -/

theorem source_afterOutputs {position : SummaryPos} {s : State} {src : Source}
    (h : (afterOutputs position).source = some src) : SourceDefined s src := by
  cases position <;> cases h
  exact trivial

theorem source_cursorOutputs {position : SummaryPos} {s : State} {l : List OutId} {src : Source}
    (hl : ∀ i ∈ l, (s.output i).isSome = true) (h : (cursorOutputs position l).source = some src) :
    SourceDefined s src := by
  cases l with
  | nil => exact source_afterOutputs h
  | cons i _ => cases h; exact hl i List.mem_cons_self

theorem output_of_mem_definedOutputs {s : State} {i : OutId} (h : i ∈ s.definedOutputs) : (s.output i).isSome = true :=
  (List.mem_filter.mp h).2

theorem object_of_mem_definedObjects {s : State} {n : ObjId} (h : n ∈ s.definedObjects) : (s.object n).isSome = true :=
  (List.mem_filter.mp h).2

theorem source_cursorObjects {position : SummaryPos} {s : State} {l : List ObjId} {src : Source}
    (hl : ∀ n ∈ l, (s.object n).isSome = true) (h : (cursorObjects s position l).source = some src) :
    SourceDefined s src := by
  cases l with
  | nil => exact source_cursorOutputs (fun _ => output_of_mem_definedOutputs) h
  | cons n _ => cases h; exact hl n List.mem_cons_self

/-- The cursor moves on to the part or to a defined object or output (R104). -/
theorem source_nextCursor {position : SummaryPos} {s : State} {c : Cursor} {src : Source}
    (h : (nextCursor s position c).source = some src) : SourceDefined s src := by
  have all : ∀ n ∈ s.definedObjects, (s.object n).isSome = true := fun _ => object_of_mem_definedObjects
  cases c with
  | snapBegin =>
    cases position with
    | first => cases h; exact trivial
    | last => exact source_cursorObjects all h
  | summary =>
    cases position with
    | first => exact source_cursorObjects all h
    | last => cases h
  | object n =>
    exact source_cursorObjects (fun m hm => object_of_mem_definedObjects (List.mem_of_mem_filter hm)) h
  | output i =>
    exact source_cursorOutputs (fun j hj => output_of_mem_definedOutputs (List.mem_of_mem_filter hj)) h
  | snapEnd => cases h

theorem sourced_advance (p : Snapshot) (s : State) : Sourced s { s with snapshot := some (p.advance s) } where
  once := id
  defined src := by cases src <;> exact id
  queued e he := .inl ⟨e, he, rfl⟩
  snapshot q src hq hsrc := by
    cases hq
    have hd := source_nextCursor (s := s) hsrc
    cases src <;> exact .inr hd

/-! ## Every effect -/

theorem sourced_aside {s t : State} (h : Aside s t) : Sourced s t := by
  unfold Aside at h
  rw [h]
  exact .of_fields rfl rfl rfl rfl rfl

theorem sourced_snapshotBegun (s : State) (position : SummaryPos) :
    Sourced s { s with snapshot := some { position := position, cursor := .snapBegin, sent := 0 } } where
  once := id
  defined src := by cases src <;> exact id
  queued e he := .inl ⟨e, he, rfl⟩
  snapshot q src hq hsrc := by
    cases hq
    cases hsrc

theorem sourced_snapshotEnded (s : State) : Sourced s { s with snapshot := none } where
  once := id
  defined src := by cases src <;> exact id
  queued e he := .inl ⟨e, he, rfl⟩
  snapshot _ _ hp := nomatch hp

/-- A change of points and measurement alone. -/
theorem sourced_accepted (p : PointId) (s : State) : Sourced s (accepted p s) := by
  obtain ⟨m, h⟩ := accepted_eq p s
  rw [h]
  exact .of_fields rfl rfl rfl rfl rfl

theorem sourced_addObject (n : ObjId) (d : ObjDef) (s : State) : Sourced s (addObject n d s) :=
  (sourced_setObject n _ s).trans
    (Sourced.foldl (f := own n) (fun _ _ => .of_fields rfl rfl rfl rfl rfl) d.points _)

theorem sourced_startedState (s : State) : Sourced s (startedState s) :=
  .of_same rfl rfl rfl (fun n hn => by simpa [State.object, startedState] using hn) fun _ => id

/-- Every effect but the reset keeps the sources so. -/
theorem sourced_of_effect {s t : State} (h : Effect s t) : Sourced s t ∨ t = takeReset s := by
  cases h with
  | aside h => exact .inl (sourced_aside h)
  | requested src c _ defined => exact .inl (sourced_request defined c)
  | entryRemoved src => exact .inl (sourced_removeEntry src s)
  | snapshotBegun _ position => exact .inl (sourced_snapshotBegun s position)
  | snapshotMoved p => exact .inl (sourced_advance p s)
  | snapshotEnded => exact .inl (sourced_snapshotEnded s)
  | edgeUnheard p => exact .inl (sourced_accepted p s)
  | edgeHeard p n => exact .inl ((sourced_accepted p s).trans (sourced_setObject n _ _))
  | objectChanged n => exact .inl (sourced_setObject n _ s)
  | outputChanged i => exact .inl (sourced_setOutput i _ s)
  | energised i => exact .inl (sourced_setOutput i _ s)
  | proofEnded i => exact .inl (sourced_setProof i _ s)
  | proofBegun i => exact .inl (sourced_setProof i _ s)
  | objectDefined f _ _ _ _ accepted =>
    obtain ⟨k, urgent, n, -, -, -, -, -, rfl, -⟩ := defineObjectForm_ok accepted
    exact .inl (sourced_addObject n _ s)
  | outputDefined f _ _ _ _ accepted =>
    obtain ⟨i, -, -, -, -, rfl, -⟩ := defineOutputForm_ok accepted
    exact .inl ((sourced_setOutput i _ s).trans (sourced_setProof i _ _))
  | started => exact .inl (sourced_startedState s)
  | resetTaken => exact .inr rfl
  | _ => exact .inl (.of_fields rfl rfl rfl rfl rfl)

/-! ## No source is queued twice -/

theorem eachSourceOnce_of_effect {s t : State} (h : Effect s t) (hs : EachSourceOnce s) : EachSourceOnce t := by
  rcases sourced_of_effect h with sourced | rfl
  · exact sourced.once hs
  · exact List.nodup_nil

/-- The sources of reports: the objects, the outputs and the part. -/
def allSources : List Source :=
  (List.finRange 128).map .object ++ (List.finRange 64).map .output ++ [.part]

theorem mem_allSources (src : Source) : src ∈ allSources := by
  cases src <;> simp [allSources]

theorem length_allSources : allSources.length = 193 := by simp [allSources]

/-- There are 193 sources, so that many entries at most. -/
theorem queued_le {s : State} (h : EachSourceOnce s) : s.urgent.length + s.routine.length ≤ 193 := by
  have bound := (h.subperm fun src _ => mem_allSources src).length_le
  simpa [length_allSources] using bound

/-- Settles O56: every effect keeps the sources apart, and there are 193 of them. -/
theorem eachSourceQueuedOnce : Obligations.EachSourceQueuedOnce := by
  unfold Obligations.EachSourceQueuedOnce
  exact ⟨fun s t hs hstep => step_keeps eachSourceOnce_of_effect hs hstep, fun s => queued_le⟩

/-! ## The transmitter is idle only when nothing waits -/

theorem Sourced.sourcesDefined {s t : State} (h : Sourced s t) (hs : SourcesDefined s) : SourcesDefined t where
  queued e he := by
    rcases h.queued e he with ⟨f, hf, hfe⟩ | hd
    · exact h.defined _ (hfe ▸ hs.queued f hf)
    · exact hd
  snapshot p src hp hsrc := by
    rcases h.snapshot p src hp hsrc with hold | hd
    · exact h.defined _ (hs.snapshot p src hold hsrc)
    · exact hd

theorem sourcesDefined_takeReset (s : State) : SourcesDefined (takeReset s) where
  queued _ he := nomatch he
  snapshot _ _ hp := nomatch hp

theorem sourcesDefined_of_effect {s t : State} (h : Effect s t) (hs : SourcesDefined s) : SourcesDefined t := by
  rcases sourced_of_effect h with sourced | rfl
  · exact sourced.sourcesDefined hs
  · exact sourcesDefined_takeReset s

/-- A frame is on the line. -/
def Busy (s : State) : Prop := s.tx.isSome = true

@[simp] theorem busy_transmit (f : Frame) (parts : List Frame) (r : Bool) (s : State) : Busy (transmit f parts r s) :=
  rfl

theorem deliver_isSome {src : Source} {s : State} (h : SourceDefined s src) (m : Marks) (at_ : Time) :
    ∃ f u, deliver src m at_ s = some (f, u) := by
  cases src with
  | object n =>
    obtain ⟨o, ho⟩ := Option.isSome_iff_exists.mp h
    exact ⟨_, _, congrArg (Option.map _) ho⟩
  | output i =>
    obtain ⟨x, hx⟩ := Option.isSome_iff_exists.mp h
    exact ⟨_, _, congrArg (Option.map _) hx⟩
  | part => exact ⟨_, _, rfl⟩

theorem standingRecord_isSome {src : Source} {s : State} (h : SourceDefined s src) :
    ∃ f, standingRecord src s = some f := by
  cases src with
  | object n =>
    obtain ⟨o, ho⟩ := Option.isSome_iff_exists.mp h
    exact ⟨_, congrArg (Option.map _) ho⟩
  | output i =>
    obtain ⟨x, hx⟩ := Option.isSome_iff_exists.mp h
    exact ⟨_, congrArg (Option.map _) hx⟩
  | part => exact ⟨_, rfl⟩

/-- The entry of a defined source is sent. -/
theorem busy_sendEntry {e : Entry} {s : State} (h : SourceDefined s e.source) (urgent : Bool) :
    Busy (sendEntry e urgent s) := by
  obtain ⟨f, u, hd⟩ := deliver_isSome ((sourced_removeEntry e.source s).defined _ h)
    { urgent := urgent, snapshot := false, urgentPending := false } e.created
  simp [sendEntry, hd]

/-- The record of a defined source is sent. -/
theorem busy_sendRecord {src : Source} {s : State} (h : SourceDefined s src) : Busy (sendRecord src s) := by
  obtain ⟨f, hf⟩ := standingRecord_isSome h
  obtain ⟨g, u, hd⟩ := deliver_isSome ((sourced_removeEntry src s).defined _ h)
    { urgent := false, snapshot := true, urgentPending := false } s.clock
  unfold sendRecord
  split
  · simp [hf]
  · simp [hd]

/-- A snapshot in progress sends a frame at every cursor, one naming a source sending its record. -/
theorem busy_sendSnapshot {p : Snapshot} {s : State} (h : ∀ src, p.cursor.source = some src → SourceDefined s src) :
    Busy (sendSnapshot p s) := by
  have moved := (sourced_advance p s).defined
  unfold sendSnapshot
  cases hc : p.cursor with
  | snapBegin => rfl
  | summary => exact busy_sendRecord trivial
  | object n => exact busy_sendRecord (moved _ (h (.object n) (by rw [hc]; rfl)))
  | output i => exact busy_sendRecord (moved _ (h (.output i) (by rw [hc]; rfl)))
  | snapEnd => rfl

theorem busy_sendRoutine {s : State} (hs : SourcesDefined s) (h : s.routineWaiting = true) : Busy (sendRoutine s) := by
  cases hp : s.snapshot with
  | some p => simpa [sendRoutine, hp] using busy_sendSnapshot (fun src hsrc => hs.snapshot p src hp hsrc)
  | none =>
    cases hr : s.routine with
    | cons e es => simpa [sendRoutine, hp, hr] using busy_sendEntry (hs.queued e (by simp [hr])) false
    | nil => simp [State.routineWaiting, hp, hr] at h

theorem sourcesDefined_run {s : State} (hs : SourcesDefined s) (k : Nat) : SourcesDefined { s with urgentRun := k } :=
  ⟨hs.queued, hs.snapshot⟩

/-! ### The branches of the choice -/

theorem choose_answer {s : State} {a : Answer} {rest : List Answer} (h : s.answers = a :: rest) :
    choose s = transmit a.frames.1 a.frames.2 a.isReset { s with answers := rest } := by
  simp [choose, h]

theorem choose_routine_turn {s : State} {e : Entry} {es : List Entry} (ha : s.answers = []) (hu : s.urgent = e :: es)
    (hr : s.routineWaiting = true) (ht : routineTurn s = true) : choose s = sendRoutine { s with urgentRun := 0 } := by
  simp [choose, ha, hu, hr, ht]

theorem choose_urgent_turn {s : State} {e : Entry} {es : List Entry} (ha : s.answers = []) (hu : s.urgent = e :: es)
    (hr : s.routineWaiting = true) (ht : routineTurn s = false) :
    choose s = sendEntry e true { s with urgentRun := countUrgent s } := by
  simp [choose, ha, hu, hr, ht]

theorem choose_urgent_alone {s : State} {e : Entry} {es : List Entry} (ha : s.answers = []) (hu : s.urgent = e :: es)
    (hr : s.routineWaiting = false) : choose s = sendEntry e true s := by
  simp [choose, ha, hu, hr]

theorem choose_routine_alone {s : State} (ha : s.answers = []) (hu : s.urgent = []) (hr : s.routineWaiting = true) :
    choose s = sendRoutine { s with urgentRun := 0 } := by
  simp [choose, ha, hu, hr]

theorem choose_nothing {s : State} (ha : s.answers = []) (hu : s.urgent = []) (hr : s.routineWaiting = false) :
    choose s = s := by
  simp [choose, ha, hu, hr]

/-- Where the queues and the snapshot name defined sources the choice sends something unless nothing waits (R99). -/
theorem idleMeansQuiet_choose {s : State} (hs : SourcesDefined s) : Busy (choose s) ∨ (choose s).waiting = false := by
  cases ha : s.answers with
  | cons a rest => simp [choose_answer ha]
  | nil =>
    cases hu : s.urgent with
    | nil =>
      cases hr : s.routineWaiting with
      | false => exact .inr (by simp [choose_nothing ha hu hr, State.waiting, ha, hu, hr])
      | true => exact .inl (choose_routine_alone ha hu hr ▸ busy_sendRoutine (sourcesDefined_run hs 0) hr)
    | cons e es =>
      have head : SourceDefined s e.source := hs.queued e (by simp [hu])
      refine .inl ?_
      cases hr : s.routineWaiting with
      | false => exact choose_urgent_alone ha hu hr ▸ busy_sendEntry head true
      | true =>
        cases ht : routineTurn s with
        | false =>
          rw [choose_urgent_turn ha hu hr ht]
          exact busy_sendEntry ((sourcesDefined_run hs (countUrgent s)).queued e (by simp [hu])) true
        | true => exact choose_routine_turn ha hu hr ht ▸ busy_sendRoutine (sourcesDefined_run hs 0) hr

theorem idleMeansQuiet_schedule {s : State} (hs : SourcesDefined s) : IdleMeansQuiet (schedule s) := by
  intro hidle
  unfold schedule at hidle ⊢
  split at hidle
  · simp_all
  · rcases idleMeansQuiet_choose hs with hbusy | hquiet
    · rw [Busy, hidle] at hbusy
      cases hbusy
    · exact hquiet

theorem idleMeansQuiet_aside {s t : State} (h : Aside s t) (hs : IdleMeansQuiet s) : IdleMeansQuiet t := by
  unfold Aside at h
  rw [h]
  exact hs

/-- However a step ends, it ends idle only when nothing waits. -/
theorem idleMeansQuiet_of_shape {s t : State} (h : StepShape s t) (hd : SourcesDefined s) (hs : IdleMeansQuiet s) :
    IdleMeansQuiet t := by
  cases h with
  | still h => exact idleMeansQuiet_aside h hs
  | chosen h => exact idleMeansQuiet_schedule (h.keeps sourcesDefined_of_effect hd)
  | resetTaken => exact fun _ => rfl
  | resetEnded h =>
    have quiet := idleMeansQuiet_aside h hs
    exact quiet

/-- Settles O57: the scheduler chooses at the end of every step that can make work, and every choice over defined
sources sends something while anything waits. -/
theorem idleMeansNothingWaits : Obligations.IdleMeansNothingWaits := by
  unfold Obligations.IdleMeansNothingWaits
  rintro s t ⟨hd, hq⟩ hstep
  exact ⟨step_keeps sourcesDefined_of_effect hd hstep, idleMeansQuiet_of_shape (step_shape hstep) hd hq⟩

end Sys2Proof.Proofs.Queues
end

section
/-! Outputs and proofs (sections 7.2 and 8.1): outputs are energised in RUNNING alone, exclusion partners never both, and
a proof in flight belongs to a defined output in RUNNING. -/

namespace Sys2Proof.Proofs.Drivers

open Sys2Proof.Machine Sys2Proof.Safety Sys2Proof.Laws Sys2Proof.Proofs.Effects

/-! ## Outputs and their partners -/

/-- What R113 and R114 keep of the outputs. -/
structure OutputsFit (s : State) : Prop where
  onlyRunning : EnergisedOnlyRunning s
  partners : PartnersFit s
  notBoth : NeverBothEnergised s

/-- An output after an effect that keeps partners has the partner it had. -/
theorem partner_before {M : OutId → Prop} {s t : State} (h : DriversKept M s t) {i : OutId} {x : Output}
    (hx : t.output i = some x) : ∃ y, s.output i = some y ∧ y.cfg.partner = x.cfg.partner := by
  have hm := h.partner i
  rw [hx, Option.map_some] at hm
  exact Option.map_eq_some_iff.mp hm.symm

theorem partner_after {M : OutId → Prop} {s t : State} (h : DriversKept M s t) {i : OutId} {x : Output}
    (hx : s.output i = some x) : ∃ y, t.output i = some y ∧ y.cfg.partner = x.cfg.partner := by
  have hm := h.partner i
  rw [hx, Option.map_some] at hm
  exact Option.map_eq_some_iff.mp hm

theorem partnersFit_of_driversKept {M : OutId → Prop} {s t : State} (h : DriversKept M s t)
    (same : t.partState = s.partState) (fit : PartnersFit s) : PartnersFit t where
  notItself i x hx := by
    obtain ⟨y, hy, hp⟩ := partner_before h hx
    exact hp ▸ fit.notItself i y hy
  mutual_ hrun i x j hx hj := by
    obtain ⟨y, hy, hp⟩ := partner_before h hx
    obtain ⟨z, hz, hback⟩ := fit.mutual_ (same ▸ hrun) i y j hy (hp.trans hj)
    obtain ⟨w, hw, hq⟩ := partner_after h hz
    exact ⟨w, hw, hq.trans hback⟩

/-- Nothing is newly energised. -/
theorem OutputsFit.quiet {s t : State} (fit : OutputsFit s) (h : DriversKept (fun _ => False) s t)
    (same : t.partState = s.partState) : OutputsFit t where
  onlyRunning hstop i := by
    refine Bool.eq_false_iff.mpr fun hon => ?_
    rw [same] at hstop
    rcases h.driver i hon with hwas | hnone
    · rw [fit.onlyRunning hstop i] at hwas
      cases hwas
    · exact hnone
  partners := partnersFit_of_driversKept h same fit.partners
  notBoth i x j hx hj := by
    rintro ⟨hi, hon⟩
    obtain ⟨y, hy, hp⟩ := partner_before h hx
    exact fit.notBoth i y j hy (hp.trans hj) ⟨(h.driver i hi).resolve_right id, (h.driver j hon).resolve_right id⟩

/-- One output is energised in RUNNING, whose partner is not (R114). -/
theorem OutputsFit.energise {s : State} {i : OutId} {x : Output} (st : OutState) (fit : OutputsFit s)
    (running : s.partState = .running) (found : s.output i = some x)
    (apart : ∀ j y, x.cfg.partner = some j → s.output j = some y → y.cfg.partner = some i →
      y.state.energised = false) : OutputsFit (s.setOutput i { x with state := st }) := by
  have kept : DriversKept (· = i) s (s.setOutput i { x with state := st }) :=
    driversKept_setOutput found rfl fun _ => .inr rfl
  -- the partner of i is another output and stays off
  have partner_off : ∀ j, x.cfg.partner = some j → (s.setOutput i { x with state := st }).driverOn j = false := by
    intro j hj
    obtain ⟨y, hy, hback⟩ := fit.partners.mutual_ running i x j found hj
    have hne : j ≠ i := by
      rintro rfl
      exact fit.partners.notItself _ x found hj
    simp only [State.driverOn, output_setOutput, if_neg hne, hy, apart j y hj hy hback]
  refine ⟨fun hstop => absurd running hstop, partnersFit_of_driversKept kept rfl fit.partners, ?_⟩
  rintro k z j hz hj ⟨hk, hon⟩
  obtain ⟨y, hy, hp⟩ := partner_before kept hz
  have hyj : y.cfg.partner = some j := hp.trans hj
  rcases kept.driver k hk with hkwas | rfl
  · rcases kept.driver j hon with hjwas | rfl
    · exact fit.notBoth k y j hy hyj ⟨hkwas, hjwas⟩
    · obtain ⟨w, hw, hback⟩ := fit.partners.mutual_ running k y _ hy hyj
      rw [found] at hw
      cases hw
      rw [partner_off k hback] at hk
      cases hk
  · rw [found] at hy
    cases hy
    rw [partner_off j hyj] at hon
    cases hon

/-- An accepted definition names another output as partner (R111 test 3). -/
theorem partner_ne_of_form {f : OutputForm} {i : OutId} (good : f.badForm = false) (hi : outputNumber f.number = some i) :
    f.definition.cfg.partner ≠ some i := by
  simp only [OutputForm.badForm, Bool.or_eq_false_iff, Bool.and_eq_false_iff, decide_eq_false_iff_not] at good
  obtain ⟨⟨-, hpartner⟩, -⟩ := good
  unfold OutputForm.definition
  dsimp only
  split
  · rename_i hpres
    have hne : f.partner ≠ f.number := hpartner.resolve_left (by simp [hpres])
    unfold outputNumber at hi ⊢
    split at hi
    · cases hi
      split
      · intro heq
        simp only [Option.some.injEq, Fin.mk.injEq] at heq
        exact hne (BitVec.eq_of_toNat_eq heq)
      · simp
    · cases hi
  · simp

theorem OutputsFit.define {s : State} {i : OutId} {d : OutDef} (fit : OutputsFit s) (early : s.partState ≠ .running)
    (other : d.partner ≠ some i) : OutputsFit ((s.setOutput i (Output.define d)).setProof i Proof.reset) := by
  have off : ∀ j, ((s.setOutput i (Output.define d)).setProof i Proof.reset).driverOn j = false := by
    intro j
    by_cases hj : j = i
    · subst hj
      exact driverOn_of_output (output_setOutput_same s _ _)
    · have := fit.onlyRunning early j
      unfold State.driverOn at this ⊢
      rwa [output_of_outputs (setProof_outputs _ _ _), output_setOutput, if_neg hj]
  refine ⟨fun _ => off, ⟨fun j x hx => ?_, fun hrun => absurd hrun early⟩, fun j _ _ _ _ hon => ?_⟩
  · rw [output_of_outputs (setProof_outputs _ _ _), output_setOutput] at hx
    split at hx
    · rename_i hj
      subst hj
      cases hx
      exact other
    · exact fit.partners.notItself j x hx
  · rw [off j] at hon
    cases hon.1

/-- Where START is performed every output has passed its tests (R171). -/
theorem passesStart_of_firstFailure {s : State} (h : firstFailure s = none) (i : OutId) : PassesStart s i := by
  have passed := List.find?_eq_none.mp h i (List.mem_finRange i)
  exact (outputPasses_iff s i).mp (by simpa using passed)

theorem OutputsFit.start {s : State} (fit : OutputsFit s) (early : s.partState ≠ .running)
    (passed : firstFailure s = none) : OutputsFit (startedState s) where
  onlyRunning hstop := absurd rfl hstop
  partners := by
    refine ⟨fun i x hx => fit.partners.notItself i x hx, fun _ i x j hx hj => ?_⟩
    obtain ⟨hpartner, -⟩ := passesStart_of_firstFailure passed i x hx
    exact hpartner j hj
  notBoth i x j hx hj := by
    rintro ⟨hi, -⟩
    have off := fit.onlyRunning early i
    have hon : s.driverOn i = true := hi
    rw [off] at hon
    cases hon

theorem outputsFit_of_no_outputs {s : State} (h : ∀ i, s.output i = none) : OutputsFit s where
  onlyRunning _ i := by simp [State.driverOn, h]
  partners := by
    refine ⟨fun i x hx => ?_, fun _ i x j hx => ?_⟩
    · rw [h] at hx
      cases hx
    · rw [h] at hx
      cases hx
  notBoth i x j hx := by
    rw [h] at hx
    cases hx

/-- An effect on other records than the outputs. -/
theorem OutputsFit.of_outputs {s t : State} (fit : OutputsFit s) (outputs : t.outputs = s.outputs)
    (same : t.partState = s.partState) : OutputsFit t :=
  fit.quiet (.of_outputs outputs) same

theorem addObject_same (n : ObjId) (d : ObjDef) (s : State) :
    ∃ os ps, addObject n d s = { s with objects := os, points := ps } := by
  have owned : ∀ (l : List PointId) (t : State), ∃ ps, l.foldl (own n) t = { t with points := ps } := by
    intro l
    induction l with
    | nil => exact fun t => ⟨_, rfl⟩
    | cons p l ih =>
      intro t
      obtain ⟨ps, h⟩ := ih (own n t p)
      exact ⟨ps, h⟩
  obtain ⟨ps, h⟩ := owned d.points (s.setObject n (Obj.define d))
  exact ⟨_, ps, h⟩

theorem outputsFit_of_effect {s t : State} (h : Effect s t) (fit : OutputsFit s) : OutputsFit t := by
  cases h with
  | aside h =>
    unfold Aside at h
    rw [h]
    exact fit.of_outputs rfl rfl
  | requested src c =>
    obtain ⟨u, r, h⟩ := request_queuesOnly src c s
    rw [h]
    exact fit.of_outputs rfl rfl
  | edgeUnheard p =>
    obtain ⟨m, h⟩ := accepted_eq p s
    rw [h]
    exact fit.of_outputs rfl rfl
  | edgeHeard p =>
    obtain ⟨m, h⟩ := accepted_eq p s
    rw [h]
    exact fit.of_outputs rfl rfl
  | outputChanged i x y _ found partner driver =>
    exact fit.quiet (driversKept_setOutput found partner fun h => .inl (driver h)) rfl
  | energised i x st _ running found apart => exact fit.energise st running found apart
  | objectDefined f _ _ _ _ accepted =>
    obtain ⟨k, urgent, n, -, -, -, -, -, rfl, -⟩ := defineObjectForm_ok accepted
    obtain ⟨os, ps, h⟩ := addObject_same n (f.definition k urgent).cfg s
    rw [h]
    exact fit.of_outputs rfl rfl
  | outputDefined f _ _ _ early accepted =>
    obtain ⟨i, good, -, hi, -, rfl, -⟩ := defineOutputForm_ok accepted
    exact fit.define early (partner_ne_of_form good hi)
  | started _ early passed => exact fit.start early passed
  | configured status _ loading =>
    have off := fit.onlyRunning (by simp [loading])
    exact ⟨fun _ => off, ⟨fun i x hx => fit.partners.notItself i x hx, fun hrun => nomatch hrun⟩, fit.notBoth⟩
  | resetTaken => exact outputsFit_of_no_outputs fun i => get_replicate none i
  | _ => exact fit.of_outputs rfl rfl

/-! ## Proofs -/

/-- The deadline of a proof is present exactly while it is WATCHING (R131). -/
def DeadlineFits (p : Proof) : Prop := p.deadline.isSome = true ↔ p.phase = .watching

theorem deadlineFits_ended (p : Proof) : DeadlineFits p.ended := by
  simp [DeadlineFits, Proof.ended]

theorem deadlineFits_reset : DeadlineFits Proof.reset := by
  simp [DeadlineFits, Proof.reset]

/-- R133 gives a deadline to a WATCHING proof alone. -/
theorem deadlineFits_newProof (s : State) (x : Output) (kind : CmdKind) : DeadlineFits (newProof s x kind) := by
  unfold newProof DeadlineFits
  cases proofCourse s x.cfg.proving x.cfg.expected <;> cases kind <;> simp

theorem proofsFit_of_same {s t : State} (fit : ProofsFit s) (proofs : t.proofs = s.proofs)
    (same : t.partState = s.partState) (defined : ∀ i, (s.output i).isSome = true → (t.output i).isSome = true) :
    ProofsFit t where
  running i hi := by
    rw [proof_of_proofs proofs] at hi
    obtain ⟨hrun, hdef⟩ := fit.running i hi
    exact ⟨same.trans hrun, defined i hdef⟩
  deadline i := by
    rw [proof_of_proofs proofs]
    exact fit.deadline i

theorem proofsFit_of_fields {s t : State} (fit : ProofsFit s) (proofs : t.proofs = s.proofs)
    (same : t.partState = s.partState) (outputs : t.outputs = s.outputs) : ProofsFit t :=
  proofsFit_of_same fit proofs same fun i => by rw [output_of_outputs outputs]; exact id

theorem proofsFit_setOutput {s : State} (fit : ProofsFit s) (i : OutId) (x : Output) : ProofsFit (s.setOutput i x) :=
  proofsFit_of_same fit rfl rfl fun j hj => by rw [output_setOutput]; split <;> simp_all

theorem proofsFit_setProof {s : State} {i : OutId} {p : Proof} (fit : ProofsFit s)
    (running : p.phase ≠ .none → s.partState = .running ∧ (s.output i).isSome = true) (deadline : DeadlineFits p) :
    ProofsFit (s.setProof i p) where
  running j hj := by
    rw [proof_setProof] at hj
    split at hj
    · rename_i h
      subst h
      exact running hj
    · exact fit.running j hj
  deadline j := by
    rw [proof_setProof]
    split
    · exact deadline
    · exact fit.deadline j

theorem proofsFit_of_no_proofs {s : State} (h : ∀ i, s.proof i = Proof.reset) : ProofsFit s where
  running i hi := absurd (by rw [h i]; rfl) hi
  deadline i := by
    rw [h i]
    exact deadlineFits_reset

/-- Before RUNNING no proof is in flight, so the part state may change. -/
theorem proofsFit_early {s t : State} (fit : ProofsFit s) (early : s.partState ≠ .running)
    (proofs : t.proofs = s.proofs) : ProofsFit t where
  running i hi := by
    rw [proof_of_proofs proofs] at hi
    obtain ⟨hrun, -⟩ := fit.running i hi
    exact absurd hrun early
  deadline i := by
    rw [proof_of_proofs proofs]
    exact fit.deadline i

theorem proofsFit_of_effect {s t : State} (h : Effect s t) (fit : ProofsFit s) : ProofsFit t := by
  cases h with
  | aside h =>
    unfold Aside at h
    rw [h]
    exact proofsFit_of_fields fit rfl rfl rfl
  | requested src c =>
    obtain ⟨u, r, h⟩ := request_queuesOnly src c s
    rw [h]
    exact proofsFit_of_fields fit rfl rfl rfl
  | edgeUnheard p =>
    obtain ⟨m, h⟩ := accepted_eq p s
    rw [h]
    exact proofsFit_of_fields fit rfl rfl rfl
  | edgeHeard p =>
    obtain ⟨m, h⟩ := accepted_eq p s
    rw [h]
    exact proofsFit_of_fields fit rfl rfl rfl
  | outputChanged i => exact proofsFit_setOutput fit i _
  | energised i => exact proofsFit_setOutput fit i _
  | proofEnded i => exact proofsFit_setProof fit (fun hp => absurd rfl hp) (deadlineFits_ended _)
  | proofBegun i x kind _ running found =>
    exact proofsFit_setProof fit (fun _ => ⟨running, by simp [found]⟩) (deadlineFits_newProof s x kind)
  | objectDefined f _ _ _ _ accepted =>
    obtain ⟨k, urgent, n, -, -, -, -, -, rfl, -⟩ := defineObjectForm_ok accepted
    obtain ⟨os, ps, h⟩ := addObject_same n (f.definition k urgent).cfg s
    rw [h]
    exact proofsFit_of_fields fit rfl rfl rfl
  | outputDefined f _ _ _ _ accepted =>
    obtain ⟨i, -, -, -, -, rfl, -⟩ := defineOutputForm_ok accepted
    exact proofsFit_setProof (proofsFit_setOutput fit i _) (fun hp => absurd rfl hp) deadlineFits_reset
  | started _ early => exact proofsFit_early fit early rfl
  | configured status _ loading => exact proofsFit_early fit (by simp [loading]) rfl
  | resetTaken => exact proofsFit_of_no_proofs fun i => get_replicate Proof.reset i
  | _ => exact proofsFit_of_fields fit rfl rfl rfl

/-- Settles O58: every effect keeps the outputs and the proofs so; the effect that energises an output is had only where
its partner is not energised. -/
theorem outputsAndProofsStayFit : Obligations.OutputsAndProofsStayFit := by
  unfold Obligations.OutputsAndProofsStayFit
  refine ⟨fun s t hs hstep => ?_, fun s t fit hstep => step_keeps proofsFit_of_effect fit hstep⟩
  obtain ⟨only, partners, apart⟩ := hs
  have fit := step_keeps outputsFit_of_effect ⟨only, partners, apart⟩ hstep
  exact ⟨fit.onlyRunning, fit.partners, fit.notBoth⟩

end Sys2Proof.Proofs.Drivers
end

section
/-! The counts of every record stay within the bounds the spec gives them. -/

namespace Sys2Proof.Proofs.Counts

open Sys2Proof.Machine Sys2Proof.Safety Sys2Proof.Laws Sys2Proof.Proofs.Effects

/-! ## The counts of an object in the course of one event -/

/-- The counts of an object, whose ranges `ObjInRange` gives. -/
def countsOf (o : Obj) : Nat × Nat × Nat × Nat × Nat × List Nat × Nat × Nat :=
  (o.changes, o.windowCount, o.opCount, o.pair.lastPickUp, o.pair.lastDropAway, o.code.periods, o.code.lastRate,
    o.code.lastDuty)

theorem inRange_of_same {o x : Obj} (h : ObjInRange o) (same : countsOf x = countsOf o) : ObjInRange x := by
  simp only [countsOf, Prod.mk.injEq] at same
  obtain ⟨h1, h2, h3, h4, h5, h6, h7, h8⟩ := same
  exact ⟨h1 ▸ h.changes, h2 ▸ h.windowCount, h3 ▸ h.opCount, h4 ▸ h.lastPickUp, h5 ▸ h.lastDropAway, h6 ▸ h.periods,
    h7 ▸ h.lastRate, h8 ▸ h.lastDuty⟩

/-- The code record takes other values, which are in their ranges. -/
theorem inRange_of_code {o : Obj} {c : CodeRec} (h : ObjInRange o) (periods : c.periods.length ≤ 4)
    (lastRate : c.lastRate ≤ 999) (lastDuty : c.lastDuty ≤ 100) : ObjInRange { o with code := c } :=
  ⟨h.changes, h.windowCount, h.opCount, h.lastPickUp, h.lastDropAway, periods, lastRate, lastDuty⟩

section Steps

variable {p : ObjStep}

theorem inRange_raise (h : ObjInRange p.obj) (e : Event) : ObjInRange (p.raise e).obj :=
  inRange_of_same h rfl

theorem inRange_offer (h : ObjInRange p.obj) (v : Indication) : ObjInRange (p.offer v).obj := by
  have counted : ObjInRange { p.obj with windowCount := satInc 255 p.obj.windowCount } :=
    ⟨h.changes, satInc_le, h.opCount, h.lastPickUp, h.lastDropAway, h.periods, h.lastRate, h.lastDuty⟩
  unfold ObjStep.offer
  dsimp only
  split
  · exact counted
  · split
    · exact inRange_of_same counted rfl
    · exact inRange_of_same counted rfl

theorem inRange_serviceTest (h : ObjInRange p.obj) : ObjInRange p.serviceTest.obj := by
  unfold ObjStep.serviceTest
  split
  · exact inRange_of_same h rfl
  · exact h

theorem inRange_settle {o : Obj} (h : ObjInRange o) (v : Indication) : ObjInRange (o.settle v) := by
  unfold Obj.settle
  split
  · exact inRange_of_same h rfl
  · exact h

theorem inRange_operation (h : ObjInRange p.obj) (v : Indication) : ObjInRange (p.operation v).obj := by
  unfold ObjStep.operation
  refine inRange_settle ?_ v
  split
  · exact inRange_serviceTest
      ⟨h.changes, h.windowCount, satInc_le, h.lastPickUp, h.lastDropAway, h.periods, h.lastRate, h.lastDuty⟩
  · exact h

theorem inRange_setChange {o : Obj} (h : ObjInRange o) (v : Indication) (t : Time) : ObjInRange (o.setChange v t) :=
  ⟨satInc_le, h.windowCount, h.opCount, h.lastPickUp, h.lastDropAway, h.periods, h.lastRate, h.lastDuty⟩

theorem inRange_commit (h : ObjInRange p.obj) (v : Indication) (t : Time) : ObjInRange (p.commit v t).obj :=
  inRange_operation (inRange_offer (p := { p with obj := p.obj.setChange v t, change := some (v, t) })
    (inRange_setChange h v t) v) v

theorem inRange_leaveUnproven (h : ObjInRange p.obj) (v : Indication) (t : Time) :
    ObjInRange (p.leaveUnproven v t).obj := by
  have settled : ObjInRange (Obj.settle v { p.obj.setChange v t with settleDeadline := none }) :=
    inRange_settle (o := { p.obj.setChange v t with settleDeadline := none })
      (inRange_of_same (inRange_setChange h v t) rfl) v
  unfold ObjStep.leaveUnproven
  dsimp only
  split
  · exact inRange_of_same settled rfl
  · exact inRange_of_same settled rfl
  · exact inRange_of_same settled rfl

end Steps

section Objects

variable {o : Obj}

/-! ### Deadlines, the chatter window and degradation -/

theorem inRange_emptied {o : Obj} (h : ObjInRange o) : ObjInRange { o with code := o.code.emptied } :=
  inRange_of_code h (Nat.zero_le _) h.lastRate h.lastDuty

theorem inRange_settleStep (h : ObjInRange o) (s : State) : ObjInRange (settleStep s o).obj := by
  have left := inRange_leaveUnproven (p := o.begin) h (classify s o) s.clock
  unfold settleStep
  dsimp only
  split
  · exact inRange_emptied left
  · exact left
  · exact left

theorem inRange_transitExpiry (h : ObjInRange o) (deadline : Time) :
    ObjInRange (transitExpiry deadline o.begin).obj := by
  refine inRange_commit ?_ .lost deadline
  exact inRange_of_same h rfl

theorem inRange_conflictExpiry (h : ObjInRange o) (deadline : Time) :
    ObjInRange (conflictExpiry deadline o.begin).obj := by
  refine inRange_commit ?_ .conflict deadline
  exact inRange_of_same h rfl

theorem inRange_steadyStep (h : ObjInRange o) (level : Level) (deadline : Time) :
    ObjInRange (steadyStep level deadline o).obj := by
  have emptied : ObjInRange { o with code := { o.code.emptied with steadyDeadline := none } } :=
    inRange_of_code h (Nat.zero_le _) h.lastRate h.lastDuty
  unfold steadyStep
  dsimp only
  split
  · exact emptied
  · exact inRange_commit emptied _ _

theorem inRange_boundaryStep (h : ObjInRange o) : ObjInRange (boundaryStep o).obj := by
  have applied : ObjInRange o.applyChatter := by
    unfold Obj.applyChatter
    split
    · exact inRange_of_same h rfl
    · exact h
  have zeroed : ∀ {x : Obj}, ObjInRange x → ObjInRange { x with windowCount := 0 } := fun k =>
    ⟨k.changes, Nat.zero_le _, k.opCount, k.lastPickUp, k.lastDropAway, k.periods, k.lastRate, k.lastDuty⟩
  unfold boundaryStep
  refine zeroed ?_
  split
  · unfold ObjStep.release
    dsimp only
    split
    · exact inRange_of_same applied rfl
    · exact inRange_of_same applied rfl
  · exact applied

theorem inRange_degradeStep (h : ObjInRange o) (s : State) : ObjInRange (degradeStep s o).obj := by
  unfold degradeStep
  dsimp only
  split
  · exact inRange_of_same h rfl
  · split <;> exact inRange_of_same h rfl

/-! ### Adjusting, suspending and resuming -/

theorem inRange_setService {p : ObjStep} (h : ObjInRange p.obj) (x : Nat) : ObjInRange (p.setService x).obj := by
  unfold ObjStep.setService
  split
  · exact h
  · dsimp only
    split
    · exact inRange_serviceTest (inRange_of_same h rfl)
    · exact inRange_of_same h rfl

theorem inRange_adjustStep (h : ObjInRange o) (f : AdjustObjectForm) : ObjInRange (adjustStep f o).obj := by
  have staged : ObjInRange (if present f.presence 4 = true then
      { o with staged := f.stage o.staged, cfg := { o.cfg with urgent := (flagOfByte f.urgent).getD o.cfg.urgent } }
      else { o with staged := f.stage o.staged }) := by
    split <;> exact inRange_of_same h rfl
  unfold adjustStep
  dsimp only
  split
  · exact inRange_setService staged _
  · exact staged

theorem inRange_suspend (h : ObjInRange o) : ObjInRange o.suspend :=
  ⟨h.changes, Nat.zero_le _, h.opCount, h.lastPickUp, h.lastDropAway, Nat.zero_le _, h.lastRate, h.lastDuty⟩

theorem inRange_resumeStep (h : ObjInRange o) (deadline : Time) : ObjInRange (resumeStep deadline o).obj := by
  have resumed : ObjInRange (o.resume deadline) := inRange_of_same h rfl
  unfold resumeStep
  dsimp only
  split
  · exact inRange_serviceTest resumed
  · exact resumed

theorem inRange_objectChange {s : State} {x : Obj} (h : ObjInRange o) (change : ObjectChange s o x) :
    ObjInRange x := by
  cases change with
  | delivered =>
    exact ⟨Nat.zero_le _, h.windowCount, h.opCount, h.lastPickUp, h.lastDropAway, h.periods, h.lastRate, h.lastDuty⟩
  | settled => exact inRange_settleStep h s
  | transitEnded deadline => exact inRange_transitExpiry h deadline
  | conflictEnded deadline => exact inRange_conflictExpiry h deadline
  | steadied level deadline => exact inRange_steadyStep h level deadline
  | windowClosed => exact inRange_boundaryStep h
  | adjusted f => exact inRange_adjustStep h f
  | suspended => exact inRange_suspend h
  | resumed deadline => exact inRange_resumeStep h deadline
  | degraded => exact inRange_degradeStep h s

/-! ### Edges at a PAIR object -/

theorem inRange_applyTransit (h : ObjInRange o) : ObjInRange o.applyTransit := by
  unfold Obj.applyTransit
  split
  · exact inRange_of_same h rfl
  · exact h

theorem inRange_beginTransit (h : ObjInRange o) (rest : Rest) (filterUnits : Nat) (cap now : Time) :
    ObjInRange (beginTransit rest filterUnits cap now o).obj := by
  have applied := inRange_applyTransit h
  unfold beginTransit
  dsimp only
  split
  · refine inRange_transitExpiry ?_ _
    exact inRange_of_same applied rfl
  · exact inRange_of_same applied rfl

theorem inRange_beginConflict (h : ObjInRange o) (rest : Rest) (delayUnits : Nat) (cap now : Time) :
    ObjInRange (beginConflict rest delayUnits cap now o).obj := by
  have applied := inRange_applyTransit h
  unfold beginConflict
  dsimp only
  split
  · refine inRange_conflictExpiry ?_ _
    exact inRange_of_same applied rfl
  · exact inRange_of_same applied rfl

/-- A recorded transit time is at most 65,535 (R3, R45). -/
theorem inRange_record (h : ObjInRange o) (origin : Option Rest) (toward : Rest) (units : Nat) :
    ObjInRange { o with origin := origin, pair := o.pair.record toward units } := by
  cases toward with
  | picked =>
    exact ⟨h.changes, h.windowCount, h.opCount, sat16_le _, h.lastDropAway, h.periods, h.lastRate, h.lastDuty⟩
  | dropped =>
    exact ⟨h.changes, h.windowCount, h.opCount, h.lastPickUp, sat16_le _, h.periods, h.lastRate, h.lastDuty⟩

theorem inRange_transfer (h : ObjInRange o) (origin : Rest) (opening making cap : Time) :
    ObjInRange (transfer origin opening making cap o).obj := by
  have raised : ObjInRange (o.begin.transferEvents opening making).obj := by
    unfold ObjStep.transferEvents
    split
    · exact inRange_raise h _
    · split
      · exact inRange_raise h _
      · exact h
  refine inRange_commit ?_ _ cap
  exact inRange_record raised _ _ _

theorem inRange_abortTransit (h : ObjInRange o) (rest : Rest) : ObjInRange (abortTransit rest o).obj :=
  inRange_of_same h rfl

theorem inRange_lostReturn (h : ObjInRange o) (rest : Rest) (cap : Time) : ObjInRange (lostReturn rest cap o).obj := by
  refine inRange_commit ?_ _ cap
  exact inRange_of_same h rfl

theorem inRange_commitRest (h : ObjInRange o) (rest : Rest) (cap : Time) : ObjInRange (commitRest rest cap o).obj := by
  refine inRange_commit ?_ _ cap
  exact inRange_of_same h rfl

theorem inRange_conflictReturn (h : ObjInRange o) (rest : Rest) : ObjInRange (conflictReturn rest o).obj :=
  inRange_of_same h rfl

theorem inRange_restEdge (h : ObjInRange o) (k : PairTimes) (rest : Rest) (front : Bool) (level : Level) (cap : Time) :
    ObjInRange (restEdge k rest front level cap o).obj := by
  unfold restEdge
  split
  · split
    · exact inRange_beginTransit h _ _ _ _
    · exact h
  · split
    · exact h
    · exact inRange_beginConflict h _ _ _ _

theorem inRange_pairEdge (h : ObjInRange o) (k : PairTimes) (front : Bool) (level : Level) (cap : Time) :
    ObjInRange (pairEdge k front level cap o).obj := by
  unfold pairEdge
  split
  · exact inRange_restEdge h k _ front level cap
  · exact inRange_restEdge h k _ front level cap
  · unfold transitEdge
    split
    · split
      · exact inRange_abortTransit h _
      · exact inRange_transfer h _ _ _ _
    · exact h
  · unfold lostEdge
    split
    · split
      · exact inRange_lostReturn h _ _
      · exact inRange_transfer h _ _ _ _
    · exact inRange_commitRest h _ _
    · exact h
  · unfold pendingEdge
    split
    · split
      · exact inRange_transfer h _ _ _ _
      · exact inRange_conflictReturn h _
    · exact h
  · unfold conflictEdge
    split
    · exact inRange_commitRest h _ _
    · exact h
  all_goals exact h

/-! ### Edges at a CODED object -/

theorem length_lastFour_le (l : List Nat) : (lastFour l).length ≤ 4 := by
  simp only [lastFour, List.length_drop]
  omega

theorem clamp_le {lo hi : Nat} (h : lo ≤ hi) (x : Nat) : clamp lo hi x ≤ hi := max_le h (min_le_right _ _)

theorem codeRate_le (periods : List Nat) : codeRate periods ≤ 999 := by
  unfold codeRate rateOfMean
  exact clamp_le (by decide) _

theorem inRange_codeCommit (h : ObjInRange o) (c : Indication) (cap now : Time) :
    ObjInRange (codeCommit c cap now o).obj := by
  unfold codeCommit
  split
  · have left := inRange_leaveUnproven (p := o.begin) h c cap
    exact inRange_of_code left left.periods left.lastRate left.lastDuty
  · exact inRange_commit (p := o.begin) h c cap

theorem inRange_hysteresis (h : ObjInRange o) (c : Indication) (cap now : Time) :
    ObjInRange (hysteresis c cap now o).obj := by
  have pending : ∀ candidate, ObjInRange { o with code := { o.code with candidate := candidate } } :=
    fun _ => inRange_of_code h h.periods h.lastRate h.lastDuty
  unfold hysteresis
  split
  · exact pending _
  · split
    · exact inRange_codeCommit (pending _) c cap now
    · exact pending _

theorem inRange_evaluate (h : ObjInRange o) (bands : Vector (Option Band) 8) (cap now : Time) :
    ObjInRange (evaluate bands cap now o).obj := by
  have rated : ObjInRange { o with code := { o.code with lastRate := codeRate o.code.periods } } := by
    refine inRange_of_code h h.periods ?_ h.lastDuty
    exact codeRate_le _
  exact inRange_hysteresis rated _ _ _

theorem inRange_detectMade (h : ObjInRange o) (bands : Vector (Option Band) 8) (cap now : Time) :
    ObjInRange (detectMade bands cap now o).obj := by
  unfold detectMade
  split
  · exact inRange_of_code h h.periods h.lastRate h.lastDuty
  · rename_i anchor _
    have closed : ObjInRange { o with code := o.code.close anchor cap } :=
      inRange_of_code h (length_lastFour_le _) h.lastRate (min_le_right _ _)
    dsimp only
    split
    · exact inRange_evaluate closed bands cap now
    · exact closed

theorem inRange_detectOpen (h : ObjInRange o) (cap : Time) : ObjInRange (detectOpen cap o).obj := by
  unfold detectOpen
  split
  · exact h
  · exact inRange_of_code h h.periods h.lastRate h.lastDuty

theorem inRange_codedEdge (h : ObjInRange o) (bands : Vector (Option Band) 8) (settleUnits : Nat) (level : Level)
    (cap now : Time) : ObjInRange (codedEdge bands settleUnits level cap now o).obj := by
  have applied : ObjInRange o.applySteady := by
    unfold Obj.applySteady
    split
    · exact inRange_of_same h rfl
    · exact h
  have restarted : ObjInRange (o.applySteady.restartCode settleUnits now) := by
    unfold Obj.restartCode
    split
    · exact inRange_of_same applied rfl
    · exact inRange_of_code applied applied.periods applied.lastRate applied.lastDuty
  cases level with
  | made => exact inRange_detectMade restarted bands cap now
  | opn => exact inRange_detectOpen restarted cap

theorem inRange_edgeStep (h : ObjInRange o) (s : State) (p : PointId) (level : Level) (cap : Time) :
    ObjInRange (edgeStep s p level cap o).obj := by
  unfold edgeStep
  split
  · exact inRange_codedEdge h _ _ _ _ _
  · split
    · exact inRange_of_same h rfl
    · exact inRange_commit (p := o.begin) h _ _
  · split
    · exact inRange_of_same h rfl
    · exact inRange_pairEdge h _ _ _ _

theorem inRange_define (d : ObjDef) : ObjInRange (Obj.define d) := by
  constructor <;> simp [Obj.define]

end Objects

/-! ## The counts of the module -/

section Module

variable {s : State}

theorem countsInRange_setObject (h : CountsInRange s) {x : Obj} (hx : ObjInRange x) (n : ObjId) :
    CountsInRange (s.setObject n x) where
  reference := h.reference
  points := h.points
  objects m o ho := by
    rw [object_setObject] at ho
    split at ho
    · cases ho
      exact hx
    · exact h.objects m o ho
  outputs := h.outputs
  health := h.health
  link := ⟨h.link.length, h.link.check, h.link.abandoned, h.link.overruns, h.link.answers, h.link.urgentRun⟩

theorem countsInRange_setOutput (h : CountsInRange s) {x : Output} (hx : ResultInRange x.result) (i : OutId) :
    CountsInRange (s.setOutput i x) where
  reference := h.reference
  points := h.points
  objects := h.objects
  outputs j y hy := by
    rw [output_setOutput] at hy
    split at hy
    · cases hy
      exact hx
    · exact h.outputs j y hy
  health := h.health
  link := ⟨h.link.length, h.link.check, h.link.abandoned, h.link.overruns, h.link.answers, h.link.urgentRun⟩

theorem countsInRange_setPoint (h : CountsInRange s) {x : Point} (hx : x.glitch ≤ 255) (p : PointId) :
    CountsInRange (s.setPoint p x) where
  reference := h.reference
  points q := by
    rw [point_setPoint]
    split
    · exact hx
    · exact h.points q
  objects := h.objects
  outputs := h.outputs
  health := h.health
  link := ⟨h.link.length, h.link.check, h.link.abandoned, h.link.overruns, h.link.answers, h.link.urgentRun⟩

theorem countsInRange_setHealth (h : CountsInRange s) {x : Health} (hx : HealthInRange x) (p : PointId) :
    CountsInRange (s.setHealth p x) where
  reference := h.reference
  points := h.points
  objects := h.objects
  outputs := h.outputs
  health q := by
    rw [healthOf_setHealth]
    split
    · exact hx
    · exact h.health q
  link := ⟨h.link.length, h.link.check, h.link.abandoned, h.link.overruns, h.link.answers, h.link.urgentRun⟩

/-- A change of other records than those with counts. -/
theorem countsInRange_of_link {t : State} (h : CountsInRange s) (link : LinkInRange t) (measure : t.measure = s.measure)
    (points : t.points = s.points) (objects : t.objects = s.objects) (outputs : t.outputs = s.outputs)
    (health : t.health = s.health) : CountsInRange t where
  reference := measure ▸ h.reference
  points p := point_of_points points p ▸ h.points p
  objects n := object_of_objects objects n ▸ h.objects n
  outputs i := output_of_outputs outputs i ▸ h.outputs i
  health p := healthOf_of_health health p ▸ h.health p
  link := link

theorem countsInRange_of_same {t : State} (h : CountsInRange s) (measure : t.measure = s.measure)
    (points : t.points = s.points) (objects : t.objects = s.objects) (outputs : t.outputs = s.outputs)
    (health : t.health = s.health) (errors : t.errors = s.errors) (answers : t.answers = s.answers)
    (run : t.urgentRun = s.urgentRun) : CountsInRange t := by
  refine countsInRange_of_link h ?_ measure points objects outputs health
  obtain ⟨hlength, hcheck, habandoned, hoverruns, hanswers, hrun⟩ := h.link
  constructor <;> simp only [errors, answers, run] <;> assumption

theorem countsInRange_measured (h : CountsInRange s) {x : Option Measurement}
    (bound : ∀ m c, x = some m → m.phase = .point c → c ≤ 65535) : CountsInRange { s with measure := x } :=
  ⟨bound, h.points, h.objects, h.outputs, h.health,
    ⟨h.link.length, h.link.check, h.link.abandoned, h.link.overruns, h.link.answers, h.link.urgentRun⟩⟩

/-- An acceptance leaves the glitch count and keeps or discards the measurement (R6, R148). -/
theorem countsInRange_accepted (h : CountsInRange s) (p : PointId) : CountsInRange (accepted p s) := by
  have moved := countsInRange_setPoint h (x := (s.point p).accept) (h.points p) p
  unfold accepted discardOnOpen
  split
  · exact countsInRange_measured moved (by simp)
  · exact moved

/-- Below N the counter of an urgent run goes to N at most, and N is at most 8 (R100). -/
theorem countUrgent_le (h : s.urgentRun ≤ 8) (below : routineTurn s = false) : countUrgent s ≤ 8 := by
  unfold routineTurn at below
  unfold countUrgent
  cases hr : s.reporting.ratio <;> simp only [hr, RatioMode.run, decide_eq_false_iff_not] at below ⊢ <;> omega

theorem countsInRange_addObject (h : CountsInRange s) (n : ObjId) (d : ObjDef) : CountsInRange (addObject n d s) := by
  have owned : ∀ (l : List PointId) (t : State), CountsInRange t → CountsInRange (l.foldl (own n) t) := by
    intro l
    induction l with
    | nil => exact fun _ ht => ht
    | cons p l ih =>
      intro t ht
      exact ih _ (countsInRange_setPoint ht (x := { t.point p with owner := some n }) (ht.points p) p)
  exact owned d.points _ (countsInRange_setObject h (inRange_define d) n)

theorem countsInRange_startedState (h : CountsInRange s) : CountsInRange (startedState s) where
  reference := h.reference
  points := h.points
  objects n o ho := by
    simp only [State.object, startedState, get_map] at ho
    obtain ⟨x, hx, rfl⟩ := Option.map_eq_some_iff.mp ho
    exact inRange_of_same (h.objects n x hx) rfl
  outputs := h.outputs
  health := h.health
  link := ⟨h.link.length, h.link.check, h.link.abandoned, h.link.overruns, h.link.answers, h.link.urgentRun⟩

theorem countsInRange_takeReset (s : State) : CountsInRange (takeReset s) where
  reference _ _ hm := nomatch hm
  points p := by simp [State.point, takeReset, Point.reset]
  objects n o ho := by simp [State.object, takeReset, State.reset] at ho
  outputs i x hx := by simp [State.output, takeReset, State.reset] at hx
  health p := by
    have hp : (takeReset s).healthOf p = Health.reset := get_replicate Health.reset p
    rw [hp]
    constructor <;> simp [Health.reset]
  link := by constructor <;> simp [takeReset, State.reset, LinkErrors.reset]

theorem countsInRange_endReset (h : CountsInRange s) (straps : BitVec 2) (contacts : BitVec 256) :
    CountsInRange (endReset straps contacts s) where
  reference := h.reference
  points p := by
    simp only [State.point, endReset, get_ofFn]
    exact h.points p
  objects := h.objects
  outputs := h.outputs
  health := h.health
  link := ⟨h.link.length, h.link.check, h.link.abandoned, h.link.overruns, h.link.answers, h.link.urgentRun⟩

end Module

theorem countsInRange_of_effect {s t : State} (h : Effect s t) (hs : CountsInRange s) : CountsInRange t := by
  cases h with
  | aside h =>
    unfold Aside at h
    rw [h]
    exact countsInRange_of_same hs rfl rfl rfl rfl rfl rfl rfl rfl
  | counted _ x length check abandoned overruns =>
    obtain ⟨hlength, hcheck, habandoned, hoverruns, hanswers, hrun⟩ := hs.link
    rw [max_eq_right hlength] at length
    rw [max_eq_right hcheck] at check
    rw [max_eq_right habandoned] at abandoned
    rw [max_eq_right hoverruns] at overruns
    exact countsInRange_of_link hs ⟨length, check, abandoned, overruns, hanswers, hrun⟩ rfl rfl rfl rfl rfl
  | answered _ a room =>
    obtain ⟨hlength, hcheck, habandoned, hoverruns, -, hrun⟩ := hs.link
    exact countsInRange_of_link hs ⟨hlength, hcheck, habandoned, hoverruns, by simpa using room, hrun⟩ rfl rfl rfl rfl rfl
  | answerSent _ a rest first =>
    obtain ⟨hlength, hcheck, habandoned, hoverruns, hanswers, hrun⟩ := hs.link
    rw [first, List.length_cons] at hanswers
    exact countsInRange_of_link hs ⟨hlength, hcheck, habandoned, hoverruns, Nat.le_of_succ_le hanswers, hrun⟩
      rfl rfl rfl rfl rfl
  | runZeroed =>
    obtain ⟨hlength, hcheck, habandoned, hoverruns, hanswers, -⟩ := hs.link
    exact countsInRange_of_link hs ⟨hlength, hcheck, habandoned, hoverruns, hanswers, Nat.zero_le _⟩ rfl rfl rfl rfl rfl
  | runCounted _ below =>
    obtain ⟨hlength, hcheck, habandoned, hoverruns, hanswers, hrun⟩ := hs.link
    exact countsInRange_of_link hs ⟨hlength, hcheck, habandoned, hoverruns, hanswers, countUrgent_le hrun below⟩
      rfl rfl rfl rfl rfl
  | requested src c =>
    obtain ⟨u, r, h⟩ := request_queuesOnly src c s
    rw [h]
    exact countsInRange_of_same hs rfl rfl rfl rfl rfl rfl rfl rfl
  | measured _ x bound => exact countsInRange_measured hs bound
  | healthSet p h _ bound => exact countsInRange_setHealth hs (bound (hs.health p)) p
  | rawTransition p =>
    refine countsInRange_setPoint hs ?_ p
    unfold Point.transition
    dsimp only
    split
    · exact satInc_le
    · exact hs.points p
  | edgeUnheard p => exact countsInRange_accepted hs p
  | edgeHeard p n o _ _ _ _ live =>
    obtain ⟨found, -⟩ := live_eq_some.mp live
    exact countsInRange_setObject (countsInRange_accepted hs p) (inRange_edgeStep (hs.objects n o found) _ _ _ _) n
  | objectChanged n o x _ found change =>
    exact countsInRange_setObject hs (inRange_objectChange (hs.objects n o found) change) n
  | outputChanged i x y _ found _ _ bound => exact countsInRange_setOutput hs (bound (hs.outputs i x found)) i
  | energised i x st _ _ found => exact countsInRange_setOutput hs (x := { x with state := st }) (hs.outputs i x found) i
  | objectDefined f _ _ _ _ accepted =>
    obtain ⟨k, urgent, n, -, -, -, -, -, rfl, -⟩ := defineObjectForm_ok accepted
    exact countsInRange_addObject hs n _
  | outputDefined f _ _ _ _ accepted =>
    obtain ⟨i, -, -, -, -, rfl, -⟩ := defineOutputForm_ok accepted
    have defined := countsInRange_setOutput hs (x := Output.define f.definition.cfg) ⟨Nat.zero_le _, Nat.zero_le _⟩ i
    exact countsInRange_of_same defined rfl rfl rfl rfl rfl rfl rfl rfl
  | started => exact countsInRange_startedState hs
  | resetTaken => exact countsInRange_takeReset s
  | resetEnded straps contacts => exact countsInRange_endReset hs straps contacts
  | _ => exact countsInRange_of_same hs rfl rfl rfl rfl rfl rfl rfl rfl

/-- Settles O59: every effect keeps the counts in range; each count saturates, is set to 0, or is bounded by the test its
effect is had under. -/
theorem countsStayInRange : Obligations.CountsStayInRange := by
  unfold Obligations.CountsStayInRange
  exact fun s t hs hstep => step_keeps countsInRange_of_effect hs hstep

end Sys2Proof.Proofs.Counts
end

section
/-! Contact pairs (section 3.1): the evaluated indication of a LIVE PAIR object agrees with the filtered levels of its
points and with its origin, transit and conflict fields. -/

namespace Sys2Proof.Proofs.Agreement

open Sys2Proof.Machine Sys2Proof.Safety Sys2Proof.Laws Sys2Proof.Proofs.Effects

/-! ## What the agreement sees of an object -/

/-- The part of an object's record the agreement is about: where it stands, whether it is evaluated, its evaluated
indication, its origin and its pair record. -/
structure View where
  kind : Kind
  pointA : PointId
  admission : Admission
  evaluated : Evaluated
  origin : Option Rest
  pair : PairRec

def viewOf (o : Obj) : View where
  kind := o.cfg.kind
  pointA := o.cfg.pointA
  admission := o.admission
  evaluated := o.evaluated
  origin := o.origin
  pair := o.pair

theorem viewOf_inj {x y : Obj} (h : viewOf x = viewOf y) : x.cfg.kind = y.cfg.kind ∧ x.cfg.pointA = y.cfg.pointA ∧
    x.admission = y.admission ∧ x.evaluated = y.evaluated ∧ x.origin = y.origin ∧ x.pair = y.pair := by
  simpa [viewOf] using h

theorem pairRow_of_view {a b : Level} {x y : Obj} (h : viewOf x = viewOf y) (row : PairRow a b y) : PairRow a b x := by
  obtain ⟨-, -, -, he, ho, hp⟩ := viewOf_inj h
  unfold PairRow PairQuiet at row ⊢
  simp only [he, ho, hp]
  exact row

theorem pairAtRest_of_view {x y : Obj} (h : viewOf x = viewOf y) (rest : PairAtRest y) : PairAtRest x := by
  obtain ⟨-, -, ha, he, ho, hp⟩ := viewOf_inj h
  constructor
  · intro hx
    have := rest.unproven (he ▸ hx)
    simpa only [PairQuiet, ho, hp] using this
  · intro hx
    have := rest.suspended (ha ▸ hx)
    simpa only [PairQuiet, hp] using this

/-! ### Operations of one event -/

theorem view_serviceTest (p : ObjStep) : viewOf p.serviceTest.obj = viewOf p.obj := by
  unfold ObjStep.serviceTest
  split <;> rfl

theorem view_offer (p : ObjStep) (v : Indication) : viewOf (p.offer v).obj = viewOf p.obj := by
  unfold ObjStep.offer
  dsimp only
  split
  · rfl
  · split <;> rfl

theorem view_settle (v : Indication) (o : Obj) : viewOf (o.settle v) = viewOf o := by
  unfold Obj.settle
  split <;> rfl

theorem view_operation (p : ObjStep) (v : Indication) : viewOf (p.operation v).obj = viewOf p.obj := by
  unfold ObjStep.operation
  refine (view_settle v _).trans ?_
  split
  · exact view_serviceTest _
  · rfl

/-- A committed change sets the evaluated indication and nothing else the agreement sees. -/
theorem view_commit (p : ObjStep) (v : Indication) (t : Time) :
    viewOf (p.commit v t).obj = viewOf { p.obj with evaluated := .shown v } := by
  unfold ObjStep.commit
  exact (view_operation _ v).trans (view_offer _ v)

/-- Leaving UNPROVEN sets the evaluated indication, and the origin of a PAIR that takes a rest state. -/
theorem view_leaveUnproven {p : ObjStep} {b : PointId} (hb : p.obj.cfg.kind = .pair b) (v : Indication) (t : Time) :
    viewOf (p.leaveUnproven v t).obj =
      viewOf { p.obj with evaluated := .shown v, origin := v.rest.or p.obj.origin } := by
  have settled := view_settle v { p.obj.setChange v t with settleDeadline := none }
  obtain ⟨hk, ha, had, he, ho, hp⟩ := viewOf_inj settled
  unfold ObjStep.leaveUnproven
  simp only [hk]
  have hkind : (p.obj.setChange v t).cfg.kind = .pair b := hb
  simp only [hkind]
  simp only [viewOf, ObjStep.follow, hk, ha, had, he, ho, hp]
  simp [Obj.setChange]

theorem leaveUnproven_place (p : ObjStep) (v : Indication) (t : Time) :
    (p.leaveUnproven v t).obj.cfg = p.obj.cfg := by
  have settled : (Obj.settle v { p.obj.setChange v t with settleDeadline := none }).cfg = p.obj.cfg := by
    unfold Obj.settle
    split <;> rfl
  unfold ObjStep.leaveUnproven
  dsimp only
  split <;> exact settled

/-! ## The agreement of one object -/

/-- The agreement of one object's record in a state. -/
structure ObjAgrees (s : State) (o : Obj) : Prop where
  fresh : s.partState ≠ .running → o.admission = .live ∧ o.evaluated = .shown .unproven
  rest : ∀ b, o.cfg.kind = .pair b → PairAtRest o
  row : ∀ b, o.cfg.kind = .pair b → o.admission = .live → o.evaluated ≠ .shown .unproven →
    PairRow (s.point o.cfg.pointA).filtered (s.point b).filtered o

theorem ObjAgrees.of_view {s : State} {x o : Obj} (h : ObjAgrees s o) (same : viewOf x = viewOf o) : ObjAgrees s x := by
  obtain ⟨hk, ha, had, he, -, -⟩ := viewOf_inj same
  constructor
  · rw [had, he]
    exact h.fresh
  · intro b hb
    exact pairAtRest_of_view same (h.rest b (hk ▸ hb))
  · intro b hb hl hn
    rw [ha]
    exact pairRow_of_view same (h.row b (hk ▸ hb) (had ▸ hl) (he ▸ hn))

/-- A classified LIVE object agrees where its row does. -/
theorem ObjAgrees.of_row {s : State} {x : Obj} (running : s.partState = .running) (live : x.admission = .live)
    (proven : x.evaluated ≠ .shown .unproven)
    (row : ∀ b, x.cfg.kind = .pair b → PairRow (s.point x.cfg.pointA).filtered (s.point b).filtered x) : ObjAgrees s x where
  fresh h := absurd running h
  rest b _ := by
    refine ⟨fun h => absurd h proven, fun h => ?_⟩
    rw [live] at h
    cases h
  row b hb _ _ := row b hb

/-- An object that is no PAIR agrees with anything in RUNNING. -/
theorem ObjAgrees.of_not_pair {s : State} {x : Obj} (running : s.partState = .running)
    (other : ∀ b, x.cfg.kind ≠ .pair b) : ObjAgrees s x where
  fresh h := absurd running h
  rest b hb := absurd hb (other b)
  row b hb := absurd hb (other b)

/-! ## The events other than edges -/

section Changes

variable {s : State} {o : Obj}

/-- The indication the filtered levels of a PAIR give, with the origin it brings, is a row (R25). -/
theorem pairRow_classify {b : PointId} (hb : o.cfg.kind = .pair b) (origin : o.origin = none) (quiet : PairQuiet o) :
    PairRow (s.point o.cfg.pointA).filtered (s.point b).filtered
      { o with evaluated := .shown (classify s o), origin := (classify s o).rest.or o.origin } := by
  obtain ⟨h1, h2, h3, h4⟩ := quiet
  unfold classify
  cases ha : (s.point o.cfg.pointA).filtered <;> cases hbl : (s.point b).filtered <;>
    simp [hb, hbl, PairRow, Indication.rest, PairQuiet, origin, h1, h2, h3, h4]

theorem classify_ne_unproven (s : State) (o : Obj) : classify s o ≠ .unproven := by
  unfold classify
  split <;> try split
  all_goals exact fun h => nomatch h

theorem agrees_settleStep (h : ObjAgrees s o) (running : s.partState = .running) (live : o.admission = .live)
    (unproven : o.evaluated = .shown .unproven) : ObjAgrees s (settleStep s o).obj := by
  cases hk : o.cfg.kind with
  | pair b =>
    have left : viewOf (settleStep s o).obj =
        viewOf { o with evaluated := .shown (classify s o), origin := (classify s o).rest.or o.origin } := by
      have hs : settleStep s o = o.begin.leaveUnproven (classify s o) s.clock := by simp [settleStep, hk]
      rw [hs]
      exact view_leaveUnproven (p := o.begin) hk _ _
    obtain ⟨origin, quiet⟩ := (h.rest b hk).unproven unproven
    have classified : ObjAgrees s
        { o with evaluated := .shown (classify s o), origin := (classify s o).rest.or o.origin } := by
      refine .of_row running live (fun he => classify_ne_unproven s o (by injection he)) fun c hc => ?_
      have same : b = c := by simpa [hk] using hc
      subst same
      exact pairRow_classify hk origin quiet
    exact classified.of_view left
  | single _ =>
    refine .of_not_pair running fun b hb => ?_
    simp [settleStep, hk, leaveUnproven_place, Obj.begin] at hb
  | coded =>
    refine .of_not_pair running fun b hb => ?_
    simp [settleStep, hk, leaveUnproven_place, Obj.begin, ObjStep.map] at hb

/-- The row of a moving object becomes that of LOST with its transit memory (R44). -/
theorem pairRow_transitExpiry {a b : Level} (row : PairRow a b o) (moving : o.evaluated = .transit) (deadline : Time) :
    PairRow a b (transitExpiry deadline o.begin).obj := by
  refine pairRow_of_view (view_commit _ .lost deadline) ?_
  unfold PairRow at row
  rw [moving] at row
  obtain ⟨ha, hb, ho, ht, -, hc, hd⟩ := row
  exact ⟨ha, hb, rfl, hc, hd, by simp [ObjStep.map, Obj.begin, ho, ht]⟩

/-- The row of a pending conflict becomes that of CONFLICT, with no origin (R55). -/
theorem pairRow_conflictExpiry {a b : Level} (row : PairRow a b o) (pending : o.evaluated = .conflictPending)
    (deadline : Time) : PairRow a b (conflictExpiry deadline o.begin).obj := by
  refine pairRow_of_view (view_commit _ .conflict deadline) ?_
  unfold PairRow at row
  rw [pending] at row
  obtain ⟨ha, hb, -, -, -, ht, hd⟩ := row
  exact ⟨ha, hb, rfl, ht, hd, rfl, rfl⟩

theorem agrees_transitExpiry (h : ObjAgrees s o) (running : s.partState = .running) (live : o.admission = .live)
    (moving : o.evaluated = .transit) (deadline : Time) : ObjAgrees s (transitExpiry deadline o.begin).obj := by
  obtain ⟨hk, ha, hadm, he, -, -⟩ := viewOf_inj (view_commit
    (o.begin.map fun x => { x with pair := { x.pair with transitDeadline := none } }) .lost deadline)
  refine .of_row running (hadm.trans live) (fun hu => ?_) fun b hb => ?_
  · rw [show (transitExpiry deadline o.begin).obj.evaluated = .shown .lost from he] at hu
    cases hu
  · rw [show (transitExpiry deadline o.begin).obj.cfg.pointA = o.cfg.pointA from ha]
    exact pairRow_transitExpiry (h.row b (hk ▸ hb) live (by simp [moving])) moving deadline

theorem agrees_conflictExpiry (h : ObjAgrees s o) (running : s.partState = .running) (live : o.admission = .live)
    (pending : o.evaluated = .conflictPending) (deadline : Time) :
    ObjAgrees s (conflictExpiry deadline o.begin).obj := by
  obtain ⟨hk, ha, hadm, he, -, -⟩ := viewOf_inj (view_commit (o.begin.map fun x => { x with
    origin := none, pair := { x.pair with conflictStart := none, conflictDeadline := none } }) .conflict deadline)
  refine .of_row running (hadm.trans live) (fun hu => ?_) fun b hb => ?_
  · rw [show (conflictExpiry deadline o.begin).obj.evaluated = .shown .conflict from he] at hu
    cases hu
  · rw [show (conflictExpiry deadline o.begin).obj.cfg.pointA = o.cfg.pointA from ha]
    exact pairRow_conflictExpiry (h.row b (hk ▸ hb) live (by simp [pending])) pending deadline

theorem place_steadyStep (level : Level) (deadline : Time) (o : Obj) :
    (steadyStep level deadline o).obj.cfg.kind = o.cfg.kind
      ∧ (steadyStep level deadline o).obj.cfg.pointA = o.cfg.pointA := by
  unfold steadyStep
  dsimp only
  split
  · exact ⟨rfl, rfl⟩
  · obtain ⟨hk, ha, -⟩ := viewOf_inj (view_commit
      ({ o with code := { o.code.emptied with steadyDeadline := none } } : Obj).begin (steadyIndication level) deadline)
    exact ⟨hk, ha⟩

theorem view_boundaryStep (o : Obj) : viewOf (boundaryStep o).obj = viewOf o := by
  have applied : viewOf o.applyChatter = viewOf o := by
    unfold Obj.applyChatter
    split <;> rfl
  unfold boundaryStep
  refine Eq.trans ?_ applied
  dsimp only
  split
  · unfold ObjStep.release
    dsimp only
    split <;> rfl
  · rfl

theorem view_setService (x : Nat) (p : ObjStep) : viewOf (p.setService x).obj = viewOf p.obj := by
  unfold ObjStep.setService
  split
  · rfl
  · dsimp only
    split
    · exact view_serviceTest _
    · rfl

theorem view_adjustStep (f : AdjustObjectForm) (o : Obj) : viewOf (adjustStep f o).obj = viewOf o := by
  unfold adjustStep
  dsimp only
  split <;> split
  · exact view_setService _ _
  · exact view_setService _ _
  · rfl
  · rfl

theorem view_degradeStep (s : State) (o : Obj) : viewOf (degradeStep s o).obj = viewOf o := by
  unfold degradeStep
  dsimp only
  split
  · rfl
  · split <;> rfl

theorem view_resumeStep (deadline : Time) (o : Obj) :
    viewOf (resumeStep deadline o).obj = viewOf (o.resume deadline) := by
  unfold resumeStep
  dsimp only
  split
  · exact view_serviceTest _
  · rfl

/-- A suspension clears the transit and conflict fields and leaves UNPROVEN what was UNPROVEN alone (R35). -/
theorem agrees_suspend (h : ObjAgrees s o) (running : s.partState = .running) (live : o.admission = .live) :
    ObjAgrees s o.suspend where
  fresh hn := absurd running hn
  rest b hb := by
    have quiet : PairQuiet o.suspend := ⟨rfl, rfl, rfl, rfl⟩
    refine ⟨fun hu => ⟨?_, quiet⟩, fun _ => quiet⟩
    change o.origin = none
    by_cases hp : o.evaluated = .shown .unproven
    · exact ((h.rest b hb).unproven hp).1
    · have row := h.row b hb live hp
      simp only [Obj.suspend, Obj.suspendedEvaluated] at hu
      unfold PairRow at row
      cases he : o.evaluated with
      | shown v => simp_all
      | transit =>
        simp only [he] at row hu
        cases ho : o.origin with
        | none => rfl
        | some r => cases r <;> simp [Obj.shown, he, ho] at hu
      | conflictPending =>
        simp only [he] at row hu
        cases ho : o.origin with
        | none => rfl
        | some r => cases r <;> simp [Obj.shown, he, ho] at hu
  row _ _ hl := nomatch hl

/-- A resumption makes the object UNPROVEN with no origin; the suspension cleared its other fields (R36). -/
theorem agrees_resume (h : ObjAgrees s o) (running : s.partState = .running) (asleep : o.admission = .suspended)
    (deadline : Time) : ObjAgrees s (o.resume deadline) where
  fresh hn := absurd running hn
  rest b hb := ⟨fun _ => ⟨rfl, (h.rest b hb).suspended asleep⟩, fun hs => nomatch hs⟩
  row _ _ _ hn := absurd rfl hn

theorem agrees_objectChange {x : Obj} (h : ObjAgrees s o) (change : ObjectChange s o x) : ObjAgrees s x := by
  cases change with
  | delivered => exact h.of_view rfl
  | settled running live unproven => exact agrees_settleStep h running live unproven
  | transitEnded deadline running live moving => exact agrees_transitExpiry h running live moving deadline
  | conflictEnded deadline running live pending => exact agrees_conflictExpiry h running live pending deadline
  | steadied level deadline running live coded =>
    obtain ⟨hk, -⟩ := place_steadyStep level deadline o
    exact .of_not_pair running fun _ hb => by rw [hk, coded] at hb; cases hb
  | windowClosed => exact h.of_view (view_boundaryStep o)
  | adjusted f => exact h.of_view (view_adjustStep f o)
  | suspended running live => exact agrees_suspend h running live
  | resumed deadline running asleep =>
    exact (agrees_resume h running asleep deadline).of_view (view_resumeStep deadline o)
  | degraded => exact h.of_view (view_degradeStep s o)

/-- The object stands on the points it stood on. -/
theorem place_objectChange {x : Obj} (change : ObjectChange s o x) :
    x.cfg.kind = o.cfg.kind ∧ x.cfg.pointA = o.cfg.pointA := by
  cases change with
  | delivered => exact ⟨rfl, rfl⟩
  | settled =>
    have same : (settleStep s o).obj.cfg = o.cfg := by
      unfold settleStep
      dsimp only
      split <;> exact leaveUnproven_place o.begin _ _
    rw [same]
    exact ⟨rfl, rfl⟩
  | transitEnded deadline =>
    obtain ⟨hk, ha, -⟩ := viewOf_inj (view_commit
      (o.begin.map fun x => { x with pair := { x.pair with transitDeadline := none } }) .lost deadline)
    exact ⟨hk, ha⟩
  | conflictEnded deadline =>
    obtain ⟨hk, ha, -⟩ := viewOf_inj (view_commit (o.begin.map fun x => { x with
      origin := none, pair := { x.pair with conflictStart := none, conflictDeadline := none } }) .conflict deadline)
    exact ⟨hk, ha⟩
  | steadied level deadline => exact place_steadyStep level deadline o
  | windowClosed =>
    obtain ⟨hk, ha, -⟩ := viewOf_inj (view_boundaryStep o)
    exact ⟨hk, ha⟩
  | adjusted f =>
    obtain ⟨hk, ha, -⟩ := viewOf_inj (view_adjustStep f o)
    exact ⟨hk, ha⟩
  | suspended => exact ⟨rfl, rfl⟩
  | resumed deadline =>
    obtain ⟨hk, ha, -⟩ := viewOf_inj (view_resumeStep deadline o)
    exact ⟨hk, ha⟩
  | degraded =>
    obtain ⟨hk, ha, -⟩ := viewOf_inj (view_degradeStep s o)
    exact ⟨hk, ha⟩

end Changes

/-! ## Edges at a PAIR object -/

section Edges

variable {o : Obj} {a b : Level} {cap now : Time}

theorem view_applyTransit (o : Obj) : viewOf o.applyTransit = viewOf o := by
  unfold Obj.applyTransit
  split <;> rfl

/-- Where the contact of the rest state has opened a transit begins, or LOST stands at once (R41, R42). -/
theorem pairRow_beginTransit (rest : Rest) (filterUnits : Nat) (quiet : PairQuiet o) :
    PairRow .opn .opn (beginTransit rest filterUnits cap now o).obj := by
  obtain ⟨-, -, -, -, -, hp⟩ := viewOf_inj (view_applyTransit o)
  obtain ⟨-, -, hc, hd⟩ := quiet
  unfold beginTransit
  dsimp only
  split
  · refine pairRow_transitExpiry ?_ rfl _
    exact ⟨rfl, rfl, rfl, rfl, rfl, hp ▸ hc, hp ▸ hd⟩
  · exact ⟨rfl, rfl, rfl, rfl, rfl, hp ▸ hc, hp ▸ hd⟩

/-- Where the opposite contact has made a conflict is pending, or CONFLICT stands at once (R52). -/
theorem pairRow_beginConflict (rest : Rest) (delayUnits : Nat) (quiet : PairQuiet o) :
    PairRow .made .made (beginConflict rest delayUnits cap now o).obj := by
  obtain ⟨-, -, -, -, -, hp⟩ := viewOf_inj (view_applyTransit o)
  obtain ⟨ht, hd, -, -⟩ := quiet
  unfold beginConflict
  dsimp only
  split
  · refine pairRow_conflictExpiry ?_ rfl _
    exact ⟨rfl, rfl, rfl, rfl, rfl, hp ▸ ht, hp ▸ hd⟩
  · exact ⟨rfl, rfl, rfl, rfl, rfl, hp ▸ ht, hp ▸ hd⟩

/-- The levels of the two contacts at rest: the contact of the rest state made, the other open. -/
def restLevels : Rest → Level × Level
  | .picked => (.made, .opn)
  | .dropped => (.opn, .made)

/-- A rest state stands with its contacts, as origin, and with the transit and conflict fields none. -/
theorem pairRow_rest (rest : Rest) {x : Obj} (evaluated : x.evaluated = .shown rest.indication)
    (origin : x.origin = some rest) (quiet : PairQuiet x) :
    PairRow (restLevels rest).1 (restLevels rest).2 x := by
  cases rest <;> simp [PairRow, evaluated, Rest.indication, restLevels, origin, quiet]

theorem pairQuiet_record (r : PairRec) (toward : Rest) (units : Nat) :
    (r.record toward units).transitStart = none ∧ (r.record toward units).transitDeadline = none
      ∧ (r.record toward units).conflictStart = none ∧ (r.record toward units).conflictDeadline = none := by
  cases toward <;> exact ⟨rfl, rfl, rfl, rfl⟩

/-- A transfer ends at rest opposite its origin (R45). -/
theorem pairRow_transfer (origin : Rest) (opening making : Time) :
    PairRow (restLevels origin.opposite).1 (restLevels origin.opposite).2
      (transfer origin opening making cap o).obj := by
  refine pairRow_of_view (view_commit _ _ cap) ?_
  exact pairRow_rest origin.opposite rfl rfl (pairQuiet_record _ _ _)

theorem pairRow_abortTransit (rest : Rest) (origin : o.origin = some rest) (hc : o.pair.conflictStart = none)
    (hd : o.pair.conflictDeadline = none) :
    PairRow (restLevels rest).1 (restLevels rest).2 (abortTransit rest o).obj :=
  pairRow_rest rest rfl origin ⟨rfl, rfl, hc, hd⟩

theorem pairRow_lostReturn (rest : Rest) (origin : o.origin = some rest) :
    PairRow (restLevels rest).1 (restLevels rest).2 (lostReturn rest cap o).obj := by
  refine pairRow_of_view (view_commit _ _ cap) ?_
  exact pairRow_rest rest rfl origin ⟨rfl, rfl, rfl, rfl⟩

theorem pairRow_commitRest (rest : Rest) :
    PairRow (restLevels rest).1 (restLevels rest).2 (commitRest rest cap o).obj := by
  refine pairRow_of_view (view_commit _ _ cap) ?_
  exact pairRow_rest rest rfl rfl ⟨rfl, rfl, rfl, rfl⟩

theorem pairRow_conflictReturn (rest : Rest) (origin : o.origin = some rest) (ht : o.pair.transitStart = none)
    (hd : o.pair.transitDeadline = none) :
    PairRow (restLevels rest).1 (restLevels rest).2 (conflictReturn rest o).obj :=
  pairRow_rest rest rfl origin ⟨ht, hd, rfl, rfl⟩

/-- The levels after an edge to a level on one of the two contacts. -/
def levelsAfter (front : Bool) (level a b : Level) : Level × Level := if front then (level, b) else (a, level)

/-- The levels of the rest state of a contact: those the other contact's being open and this one's making leave. -/
theorem levelsAfter_made (front : Bool) : levelsAfter front .made .opn .opn = restLevels (contactRest front) := by
  cases front <;> rfl

theorem levelsAfter_opn (front : Bool) :
    levelsAfter front .opn .made .made = restLevels (contactRest front).opposite := by
  cases front <;> rfl

theorem contactRest_opposite {front : Bool} {rest : Rest} (h : contactRest front ≠ rest) :
    rest.opposite = contactRest front := by
  cases front <;> cases rest <;> simp_all [contactRest, Rest.opposite]

theorem opposite_contactRest {front : Bool} {rest : Rest} (h : contactRest front ≠ rest) :
    (contactRest front).opposite = rest := by
  cases front <;> cases rest <;> simp_all [contactRest, Rest.opposite]

/-- An edge at rest (R41, R52). -/
theorem pairRow_restEdge (k : PairTimes) (rest : Rest) (front : Bool) (level : Level) (quiet : PairQuiet o)
    (moved : (if front then (restLevels rest).1 else (restLevels rest).2) ≠ level) :
    PairRow (levelsAfter front level (restLevels rest).1 (restLevels rest).2).1
      (levelsAfter front level (restLevels rest).1 (restLevels rest).2).2 (restEdge k rest front level cap o).obj := by
  unfold restEdge
  cases rest <;> cases front <;> cases level <;>
    simp only [restLevels, contactRest, levelsAfter, Bool.false_eq_true, if_true, if_false, reduceCtorEq, ne_eq,
      not_true_eq_false] at moved ⊢
  · exact pairRow_beginConflict .picked _ quiet
  · exact pairRow_beginTransit .picked _ quiet
  · exact pairRow_beginTransit .dropped _ quiet
  · exact pairRow_beginConflict .dropped _ quiet

/-- An edge in TRANSIT makes one of the two open contacts (R46, R47). -/
theorem pairRow_transitEdge (front : Bool) (hab : a = .opn ∧ b = .opn) (origin : o.origin.isSome = true)
    (start : o.pair.transitStart.isSome = true) (hc : o.pair.conflictStart = none)
    (hd : o.pair.conflictDeadline = none) :
    PairRow (levelsAfter front .made a b).1 (levelsAfter front .made a b).2 (transitEdge front .made cap o).obj := by
  obtain ⟨rfl, rfl⟩ := hab
  obtain ⟨rest, ho⟩ := Option.isSome_iff_exists.mp origin
  obtain ⟨t, ht⟩ := Option.isSome_iff_exists.mp start
  simp only [transitEdge, ho, ht, levelsAfter_made]
  split
  · rename_i same
    subst same
    exact pairRow_abortTransit _ ho hc hd
  · rename_i other
    rw [← contactRest_opposite other]
    exact pairRow_transfer rest t cap

/-- An edge in LOST makes one of the two open contacts (R49 to R51). -/
theorem pairRow_lostEdge (front : Bool) (hab : a = .opn ∧ b = .opn) :
    PairRow (levelsAfter front .made a b).1 (levelsAfter front .made a b).2 (lostEdge front .made cap o).obj := by
  obtain ⟨rfl, rfl⟩ := hab
  rw [levelsAfter_made]
  unfold lostEdge
  split
  · rename_i rest t _ ho _
    split
    · rename_i same
      subst same
      exact pairRow_lostReturn _ ho
    · rename_i other
      rw [← contactRest_opposite other]
      exact pairRow_transfer rest t cap
  · exact pairRow_commitRest (contactRest front)
  · contradiction

/-- An edge in CONFLICT-PENDING opens one of the two made contacts (R53, R54). -/
theorem pairRow_pendingEdge (front : Bool) (hab : a = .made ∧ b = .made) (origin : o.origin.isSome = true)
    (start : o.pair.conflictStart.isSome = true) (ht : o.pair.transitStart = none)
    (hd : o.pair.transitDeadline = none) :
    PairRow (levelsAfter front .opn a b).1 (levelsAfter front .opn a b).2 (pendingEdge front .opn cap o).obj := by
  obtain ⟨rfl, rfl⟩ := hab
  obtain ⟨rest, ho⟩ := Option.isSome_iff_exists.mp origin
  obtain ⟨t, hs⟩ := Option.isSome_iff_exists.mp start
  simp only [pendingEdge, ho, hs, levelsAfter_opn]
  split
  · rename_i same
    subst same
    exact pairRow_transfer _ cap t
  · rename_i other
    rw [opposite_contactRest other]
    exact pairRow_conflictReturn rest ho ht hd

/-- An edge in CONFLICT opens one of the two made contacts (R57). -/
theorem pairRow_conflictEdge (front : Bool) (hab : a = .made ∧ b = .made) :
    PairRow (levelsAfter front .opn a b).1 (levelsAfter front .opn a b).2 (conflictEdge front .opn cap o).obj := by
  obtain ⟨rfl, rfl⟩ := hab
  rw [levelsAfter_opn]
  exact pairRow_commitRest (contactRest front).opposite

theorem made_of_moved {front : Bool} {level : Level} (hab : a = .opn ∧ b = .opn) (moved : (if front then a else b) ≠ level) :
    level = .made := by
  obtain ⟨rfl, rfl⟩ := hab
  cases level <;> simp_all

theorem opn_of_moved {front : Bool} {level : Level} (hab : a = .made ∧ b = .made)
    (moved : (if front then a else b) ≠ level) : level = .opn := by
  obtain ⟨rfl, rfl⟩ := hab
  cases level <;> simp_all

/-- The edge table keeps the agreement: the row of the levels before becomes the row of the levels after (section 3.6). -/
theorem pairRow_pairEdge (k : PairTimes) (front : Bool) (level : Level) (row : PairRow a b o)
    (moved : (if front then a else b) ≠ level) :
    PairRow (levelsAfter front level a b).1 (levelsAfter front level a b).2 (pairEdge k front level cap o).obj := by
  unfold PairRow at row
  unfold pairEdge
  cases shows : o.evaluated with
  | transit =>
    rw [shows] at row
    obtain ⟨ha, hb, ho, ht, -, hc, hd⟩ := row
    obtain rfl := made_of_moved ⟨ha, hb⟩ moved
    exact pairRow_transitEdge front ⟨ha, hb⟩ ho ht hc hd
  | conflictPending =>
    rw [shows] at row
    obtain ⟨ha, hb, ho, hc, -, ht, hd⟩ := row
    obtain rfl := opn_of_moved ⟨ha, hb⟩ moved
    exact pairRow_pendingEdge front ⟨ha, hb⟩ ho hc ht hd
  | shown v =>
    rw [shows] at row
    cases v with
    | picked =>
      obtain ⟨rfl, rfl, -, quiet⟩ := row
      exact pairRow_restEdge k .picked front level quiet moved
    | dropped =>
      obtain ⟨rfl, rfl, -, quiet⟩ := row
      exact pairRow_restEdge k .dropped front level quiet moved
    | lost =>
      obtain ⟨ha, hb, -⟩ := row
      obtain rfl := made_of_moved ⟨ha, hb⟩ moved
      exact pairRow_lostEdge front ⟨ha, hb⟩
    | conflict =>
      obtain ⟨ha, hb, -⟩ := row
      obtain rfl := opn_of_moved ⟨ha, hb⟩ moved
      exact pairRow_conflictEdge front ⟨ha, hb⟩
    | unproven | steadyMade | steadyOpen | code | noCode => exact row.elim

end Edges

/-! ### What an edge leaves of the object -/

/-- The kind, point A and admission stand through an event. -/
def Placed (x o : Obj) : Prop :=
  x.cfg.kind = o.cfg.kind ∧ x.cfg.pointA = o.cfg.pointA ∧ x.admission = o.admission

theorem placed_of_view {x y o : Obj} (h : viewOf x = viewOf y) (hy : Placed y o) : Placed x o := by
  obtain ⟨hk, ha, had, -⟩ := viewOf_inj h
  obtain ⟨k1, k2, k3⟩ := hy
  exact ⟨hk.trans k1, ha.trans k2, had.trans k3⟩

theorem placed_commit {p : ObjStep} {o : Obj} (h : Placed p.obj o) (v : Indication) (t : Time) :
    Placed (p.commit v t).obj o :=
  placed_of_view (view_commit p v t) h

theorem placed_transferEvents (o : Obj) (opening making : Time) :
    Placed (o.begin.transferEvents opening making).obj o := by
  unfold ObjStep.transferEvents
  split
  · exact ⟨rfl, rfl, rfl⟩
  · split <;> exact ⟨rfl, rfl, rfl⟩

theorem placed_transfer (origin : Rest) (opening making cap : Time) (o : Obj) :
    Placed (transfer origin opening making cap o).obj o := by
  refine placed_commit ?_ _ cap
  exact placed_transferEvents o opening making

theorem placed_restEdge (k : PairTimes) (rest : Rest) (front : Bool) (level : Level) (cap : Time) (o : Obj) :
    Placed (restEdge k rest front level cap o).obj o := by
  have applied : Placed o.applyTransit o := placed_of_view (view_applyTransit o) ⟨rfl, rfl, rfl⟩
  unfold restEdge
  split
  · split
    · unfold beginTransit
      dsimp only
      split
      · refine placed_commit ?_ _ _
        exact applied
      · exact applied
    · exact ⟨rfl, rfl, rfl⟩
  · split
    · exact ⟨rfl, rfl, rfl⟩
    · unfold beginConflict
      dsimp only
      split
      · refine placed_commit ?_ _ _
        exact applied
      · exact applied

theorem placed_commitRest (rest : Rest) (cap : Time) (o : Obj) : Placed (commitRest rest cap o).obj o := by
  refine placed_commit ?_ _ cap
  exact ⟨rfl, rfl, rfl⟩

theorem placed_pairEdge (k : PairTimes) (front : Bool) (level : Level) (cap : Time) (o : Obj) :
    Placed (pairEdge k front level cap o).obj o := by
  have same : Placed o.begin.obj o := ⟨rfl, rfl, rfl⟩
  unfold pairEdge
  split
  · exact placed_restEdge k _ front level cap o
  · exact placed_restEdge k _ front level cap o
  · unfold transitEdge
    split
    · split
      · exact ⟨rfl, rfl, rfl⟩
      · exact placed_transfer _ _ _ _ o
    · exact same
  · unfold lostEdge
    split
    · split
      · refine placed_commit ?_ _ cap
        exact ⟨rfl, rfl, rfl⟩
      · exact placed_transfer _ _ _ _ o
    · exact placed_commitRest _ _ o
    · exact same
  · unfold pendingEdge
    split
    · split
      · exact placed_transfer _ _ _ _ o
      · exact ⟨rfl, rfl, rfl⟩
    · exact same
  · unfold conflictEdge
    split
    · exact placed_commitRest _ _ o
    · exact same
  all_goals exact same

theorem placed_leaveUnproven {p : ObjStep} {o : Obj} (h : Placed p.obj o) (v : Indication) (t : Time) :
    Placed (p.leaveUnproven v t).obj o := by
  have settled := placed_of_view (view_settle v { p.obj.setChange v t with settleDeadline := none })
    (o := o) (by exact h)
  unfold ObjStep.leaveUnproven
  dsimp only
  split <;> exact settled

theorem placed_codedEdge (bands : Vector (Option Band) 8) (settleUnits : Nat) (level : Level) (cap now : Time)
    (o : Obj) : Placed (codedEdge bands settleUnits level cap now o).obj o := by
  have restarted : Placed (o.applySteady.restartCode settleUnits now) o := by
    unfold Obj.restartCode Obj.applySteady
    split <;> split <;> exact ⟨rfl, rfl, rfl⟩
  have committed : ∀ {x : Obj} (c : Indication), Placed x o → Placed (codeCommit c cap now x).obj o := by
    intro x c hx
    unfold codeCommit
    split
    · exact placed_leaveUnproven (p := x.begin) hx c cap
    · exact placed_commit (p := x.begin) hx c cap
  unfold codedEdge
  dsimp only
  split
  · unfold detectMade
    split
    · exact restarted
    · dsimp only
      split
      · unfold evaluate hysteresis
        dsimp only
        split
        · exact restarted
        · split
          · refine committed _ ?_
            exact restarted
          · exact restarted
      · exact restarted
  · unfold detectOpen
    split <;> exact restarted

theorem placed_edgeStep (s : State) (p : PointId) (level : Level) (cap : Time) (o : Obj) :
    Placed (edgeStep s p level cap o).obj o := by
  unfold edgeStep
  split
  · exact placed_codedEdge _ _ _ _ _ o
  · split
    · exact ⟨rfl, rfl, rfl⟩
    · refine placed_commit ?_ _ _
      exact ⟨rfl, rfl, rfl⟩
  · split
    · exact ⟨rfl, rfl, rfl⟩
    · exact placed_pairEdge _ _ _ _ o

/-! ## The module -/

theorem pairsAgree_iff (s : State) : PairsAgree s ↔
    OwnersAgree s ∧ PairPointsDiffer s ∧ ∀ n o, s.object n = some o → ObjAgrees s o := by
  constructor
  · intro h
    exact ⟨h.owners, h.points, fun n o ho => ⟨fun hs => h.fresh hs n o ho, fun b => h.rest n o b ho,
      fun b => h.rows n o b ho⟩⟩
  · rintro ⟨owners, differ, agrees⟩
    exact ⟨owners, differ, fun hs n o ho => (agrees n o ho).fresh hs, fun n o b ho => (agrees n o ho).rest b,
      fun n o b ho => (agrees n o ho).row b⟩

theorem points_of_kind {d e : ObjDef} (kind : d.kind = e.kind) (pointA : d.pointA = e.pointA) : d.points = e.points := by
  simp only [ObjDef.points, kind, pointA]

/-- Point A is one of the points of an object. -/
theorem pointA_mem_points (d : ObjDef) : d.pointA ∈ d.points := by
  unfold ObjDef.points
  split <;> simp

theorem pointB_mem_points {d : ObjDef} {b : PointId} (h : d.kind = .pair b) : b ∈ d.points := by
  simp [ObjDef.points, h]

/-- The levels an object's agreement is about are those of its own points. -/
theorem ObjAgrees.of_points {s t : State} {o : Obj} (h : ObjAgrees s o) (same : t.partState = s.partState)
    (levels : ∀ p ∈ o.cfg.points, (t.point p).filtered = (s.point p).filtered) : ObjAgrees t o where
  fresh := same ▸ h.fresh
  rest := h.rest
  row b hb hl hn := by
    rw [levels _ (pointA_mem_points o.cfg), levels _ (pointB_mem_points hb)]
    exact h.row b hb hl hn

/-- An effect on other records than the points and objects. -/
theorem pairsAgree_of_same {s t : State} (h : PairsAgree s) (same : t.partState = s.partState)
    (objects : t.objects = s.objects)
    (points : ∀ p, (t.point p).filtered = (s.point p).filtered ∧ (t.point p).owner = (s.point p).owner) :
    PairsAgree t := by
  obtain ⟨owners, differ, agrees⟩ := (pairsAgree_iff s).mp h
  have object := object_of_objects objects
  refine (pairsAgree_iff t).mpr ⟨fun p n => ?_, fun n o b ho => differ n o b (object n ▸ ho), fun n o ho => ?_⟩
  · rw [(points p).2, owners p n, object n]
  · exact (agrees n o (object n ▸ ho)).of_points same fun p _ => (points p).1

theorem pairsAgree_of_fields {s t : State} (h : PairsAgree s) (same : t.partState = s.partState)
    (objects : t.objects = s.objects) (points : t.points = s.points) : PairsAgree t :=
  pairsAgree_of_same h same objects fun p => by rw [point_of_points points p]; exact ⟨rfl, rfl⟩

/-- The record of an object is replaced by one on the same points; the levels of the other objects' points stand. -/
theorem pairsAgree_replace {s t : State} {n : ObjId} {o x : Obj} (h : PairsAgree s) (found : s.object n = some o)
    (kind : x.cfg.kind = o.cfg.kind) (pointA : x.cfg.pointA = o.cfg.pointA) (same : t.partState = s.partState)
    (objects : ∀ m, t.object m = if m = n then some x else s.object m)
    (owner : ∀ p, (t.point p).owner = (s.point p).owner)
    (levels : ∀ p, (s.point p).owner ≠ some n → (t.point p).filtered = (s.point p).filtered)
    (agrees : ObjAgrees t x) : PairsAgree t := by
  obtain ⟨owners, differ, agree⟩ := (pairsAgree_iff s).mp h
  have points : x.cfg.points = o.cfg.points := points_of_kind kind pointA
  refine (pairsAgree_iff t).mpr ⟨fun p m => ?_, fun m y b hy hk => ?_, fun m y hy => ?_⟩
  · rw [owner p, owners p m, objects m]
    split
    · rename_i hm
      subst hm
      simp [found, points]
    · rfl
  · rw [objects m] at hy
    split at hy
    · cases hy
      rw [pointA]
      exact differ n o b found (kind ▸ hk)
    · exact differ m y b hy hk
  · rw [objects m] at hy
    split at hy
    · cases hy
      exact agrees
    · rename_i hm
      refine (agree m y hy).of_points same fun p hp => levels p fun hn => ?_
      have hpm := (owners p m).mpr ⟨y, hy, hp⟩
      rw [hn] at hpm
      exact hm (Option.some.inj hpm).symm

theorem pairsAgree_objectChanged {s : State} {n : ObjId} {o x : Obj} (h : PairsAgree s) (found : s.object n = some o)
    (change : ObjectChange s o x) : PairsAgree (s.setObject n x) := by
  obtain ⟨-, -, agree⟩ := (pairsAgree_iff s).mp h
  obtain ⟨kind, pointA⟩ := place_objectChange change
  exact pairsAgree_replace h found kind pointA rfl (fun m => object_setObject s n m x) (fun _ => rfl) (fun _ _ => rfl)
    ((agrees_objectChange (agree n o found) change).of_points rfl fun _ _ => rfl)

/-! ### An accepted edge -/

theorem point_accepted (p q : PointId) (s : State) :
    (accepted p s).point q = if q = p then (s.point p).accept else s.point q := by
  obtain ⟨m, h⟩ := accepted_eq p s
  rw [h]
  exact upd_get _ _ _ _

theorem object_accepted (p : PointId) (s : State) (n : ObjId) : (accepted p s).object n = s.object n := by
  obtain ⟨m, h⟩ := accepted_eq p s
  rw [h]
  rfl

theorem owner_point_accepted (p q : PointId) (s : State) :
    ((accepted p s).point q).owner = (s.point q).owner := by
  rw [point_accepted]
  split
  · rename_i hq
    subst hq
    rfl
  · rfl

theorem filtered_accepted_ne {p q : PointId} {s : State} (h : q ≠ p) :
    ((accepted p s).point q).filtered = (s.point q).filtered := by
  rw [point_accepted, if_neg h]

theorem filtered_accepted_same (p : PointId) (s : State) : ((accepted p s).point p).filtered = (s.point p).raw := by
  rw [point_accepted, if_pos rfl]
  rfl

/-- An edge no LIVE owner hears in RUNNING is on a point of no classified LIVE object. -/
theorem pairsAgree_edgeUnheard {s : State} {p : PointId} (h : PairsAgree s)
    (unheard : ∀ n o, s.partState = .running → (s.point p).owner = some n → s.live n ≠ some o) :
    PairsAgree (accepted p s) := by
  obtain ⟨owners, differ, agree⟩ := (pairsAgree_iff s).mp h
  refine (pairsAgree_iff _).mpr ⟨fun q m => ?_, fun m y b hy => differ m y b (object_accepted p s m ▸ hy), fun m y hy => ?_⟩
  · rw [owner_point_accepted, object_accepted]
    exact owners q m
  · rw [object_accepted] at hy
    by_cases hp : p ∈ y.cfg.points
    · have owned := (owners p m).mpr ⟨y, hy, hp⟩
      refine ⟨partState_accepted p s ▸ (agree m y hy).fresh, (agree m y hy).rest, fun b hb hl hn => ?_⟩
      by_cases running : s.partState = .running
      · exact absurd (live_eq_some.mpr ⟨hy, hl⟩) (unheard m y running owned)
      · exact absurd ((agree m y hy).fresh running).2 hn
    · exact (agree m y hy).of_points (partState_accepted p s) fun q hq =>
        filtered_accepted_ne fun hqp => hp (hqp ▸ hq)

/-- An edge at a classified PAIR object moves it from the row of the levels before to that of the levels after. -/
theorem pairRow_edgeAt {s : State} {p b : PointId} {o : Obj} (due : edgeDue s p = true) (kind : o.cfg.kind = .pair b)
    (differ : o.cfg.pointA ≠ b) (mine : p ∈ o.cfg.points) (proven : o.evaluated ≠ .shown .unproven)
    (row : PairRow (s.point o.cfg.pointA).filtered (s.point b).filtered o) :
    PairRow ((accepted p s).point o.cfg.pointA).filtered ((accepted p s).point b).filtered (edgeAt p s o).obj := by
  obtain ⟨moved, -⟩ := (edgeDue_iff s p).mp due
  simp only [ObjDef.points, kind, List.mem_cons, List.not_mem_nil, or_false] at mine
  simp only [edgeAt, edgeStep, kind, if_neg proven]
  rcases mine with rfl | rfl
  · rw [filtered_accepted_same, filtered_accepted_ne (Ne.symm differ), decide_eq_true rfl]
    exact pairRow_pairEdge _ true (s.point o.cfg.pointA).raw row (Ne.symm moved)
  · rw [filtered_accepted_same, filtered_accepted_ne differ, decide_eq_false (Ne.symm differ)]
    exact pairRow_pairEdge _ false (s.point p).raw row (Ne.symm moved)

theorem agrees_edgeAt {s : State} {p : PointId} {n : ObjId} {o : Obj} (h : PairsAgree s) (due : edgeDue s p = true)
    (running : s.partState = .running) (owner : (s.point p).owner = some n) (found : s.object n = some o)
    (live : o.admission = .live) : ObjAgrees (accepted p s) (edgeAt p s o).obj := by
  obtain ⟨owners, differ, agree⟩ := (pairsAgree_iff s).mp h
  obtain ⟨kind, pointA, admission⟩ := placed_edgeStep (accepted p s) p (s.point p).raw (s.point p).runStart o
  have running' : (accepted p s).partState = .running := (partState_accepted p s).trans running
  have mine : p ∈ o.cfg.points := by
    obtain ⟨y, hy, hp⟩ := (owners p n).mp owner
    rw [found] at hy
    cases hy
    exact hp
  by_cases proven : o.evaluated = .shown .unproven
  · -- settle-in restarts, or the code detector acts; no row is asked of what is UNPROVEN, nor of what is no PAIR
    cases hk : o.cfg.kind with
    | pair b =>
      have restarted : viewOf (edgeAt p s o).obj = viewOf o := by
        simp only [edgeAt, edgeStep, hk, if_pos proven]
        rfl
      refine ObjAgrees.of_view ⟨fun hn => absurd running' hn, (agree n o found).rest, fun _ _ _ hn => absurd proven hn⟩
        restarted
    | single _ => exact .of_not_pair running' fun b hb => by rw [edgeAt, kind, hk] at hb; cases hb
    | coded => exact .of_not_pair running' fun b hb => by rw [edgeAt, kind, hk] at hb; cases hb
  · cases hk : o.cfg.kind with
    | pair b =>
      have row := pairRow_edgeAt due hk (differ n o b found hk) mine proven ((agree n o found).row b hk live proven)
      refine .of_row running' (admission.trans live) (fun he => ?_) fun c hc => ?_
      · unfold PairRow at row
        rw [he] at row
        exact row
      · have same : b = c := by rw [edgeAt, kind, hk] at hc; injection hc
        subst same
        rw [edgeAt, pointA]
        exact row
    | single _ => exact .of_not_pair running' fun b hb => by rw [edgeAt, kind, hk] at hb; cases hb
    | coded => exact .of_not_pair running' fun b hb => by rw [edgeAt, kind, hk] at hb; cases hb

theorem pairsAgree_edgeHeard {s : State} {p : PointId} {n : ObjId} {o : Obj} (h : PairsAgree s)
    (due : edgeDue s p = true) (running : s.partState = .running) (owner : (s.point p).owner = some n)
    (live : s.live n = some o) : PairsAgree ((accepted p s).setObject n (edgeAt p s o).obj) := by
  obtain ⟨found, hl⟩ := live_eq_some.mp live
  obtain ⟨kind, pointA, -⟩ := placed_edgeStep (accepted p s) p (s.point p).raw (s.point p).runStart o
  refine pairsAgree_replace h found kind pointA (partState_accepted p s) (fun m => ?_) (fun q => owner_point_accepted p q s)
    (fun q hq => filtered_accepted_ne fun hqp => hq (hqp ▸ owner)) ?_
  · rw [object_setObject, object_accepted]
    rfl
  · exact (agrees_edgeAt h due running owner found hl).of_points rfl fun _ _ => rfl

/-! ### Definitions, START and reset -/

theorem point_own (n : ObjId) (s : State) (p q : PointId) :
    (own n s p).point q = if q = p then { s.point p with owner := some n } else s.point q :=
  point_setPoint s p q _

theorem point_foldl_own (n : ObjId) (q : PointId) : ∀ (l : List PointId) (s : State),
    (l.foldl (own n) s).point q = if q ∈ l then { s.point q with owner := some n } else s.point q
  | [], s => by simp
  | p :: l, s => by
    rw [List.foldl_cons, point_foldl_own n q l, point_own]
    by_cases hq : q = p
    · subst hq
      simp
    · simp [hq]

theorem object_foldl_own (n m : ObjId) : ∀ (l : List PointId) (s : State),
    (l.foldl (own n) s).object m = s.object m
  | [], _ => rfl
  | p :: l, s => (object_foldl_own n m l (own n s p)).trans rfl

theorem point_addObject (n : ObjId) (d : ObjDef) (s : State) (q : PointId) :
    (addObject n d s).point q = if q ∈ d.points then { s.point q with owner := some n } else s.point q :=
  point_foldl_own n q d.points (s.setObject n (Obj.define d))

theorem object_addObject (n : ObjId) (d : ObjDef) (s : State) (m : ObjId) :
    (addObject n d s).object m = if m = n then some (Obj.define d) else s.object m :=
  (object_foldl_own n m d.points _).trans (object_setObject s n m _)

theorem pointNumber_inj {x y : Byte} (h : pointNumber x = pointNumber y) : x = y := by
  simp only [pointNumber, Fin.mk.injEq] at h
  exact BitVec.eq_of_toNat_eq h

/-- An accepted PAIR names two different points (R18 test 3). -/
theorem points_differ_of_form {f : ObjectForm} {k : Kind} {urgent : Bool} {b : PointId} (hk : f.kindOf = some k)
    (hb : (f.definition k urgent).cfg.kind = .pair b) : (f.definition k urgent).cfg.pointA ≠ b := by
  change k = .pair b at hb
  change pointNumber f.pointA ≠ b
  subst hb
  intro he
  unfold ObjectForm.kindOf at hk
  split_ifs at hk 
  all_goals cases hk
  exact absurd (pointNumber_inj he) ‹_›

theorem pairsAgree_addObject {s : State} {n : ObjId} {d : ObjDef} (h : PairsAgree s)
    (new : s.object n = none) (unowned : ∀ p ∈ d.points, (s.point p).owner = none)
    (differ : ∀ b, d.kind = .pair b → d.pointA ≠ b) : PairsAgree (addObject n d s) := by
  obtain ⟨owners, apart, agree⟩ := (pairsAgree_iff s).mp h
  have same := partState_addObject n d s
  refine (pairsAgree_iff _).mpr ⟨fun p m => ?_, fun m o b ho hk => ?_, fun m o ho => ?_⟩
  · rw [point_addObject, object_addObject]
    by_cases hp : p ∈ d.points
    · by_cases hm : m = n
      · subst hm
        simp [hp, Obj.define]
      · have none_ := owners p m
        rw [unowned p hp] at none_
        simp only [hp, hm, if_true, if_false, Option.some.injEq, Ne.symm hm, false_iff]
        simpa using none_
    · by_cases hm : m = n
      · subst hm
        have none_ := owners p m
        simp only [new, reduceCtorEq, false_and, exists_false, iff_false] at none_
        simp [hp, Obj.define, none_]
      · simp only [hp, hm, if_false]
        exact owners p m
  · rw [object_addObject] at ho
    split at ho
    · cases ho
      exact differ b hk
    · exact apart m o b ho hk
  · rw [object_addObject] at ho
    split at ho
    · cases ho
      exact ⟨fun _ => ⟨rfl, rfl⟩, fun _ _ => ⟨fun _ => ⟨rfl, rfl, rfl, rfl, rfl⟩, fun hs => nomatch hs⟩,
        fun _ _ _ hn => absurd rfl hn⟩
    · refine (agree m o ho).of_points same fun p _ => ?_
      rw [point_addObject]
      split <;> rfl

theorem object_startedState (s : State) (n : ObjId) :
    (startedState s).object n = (s.object n).map (Obj.started s.settleUnits s.clock) :=
  get_map _ _ _

/-- START finds every object LIVE and UNPROVEN, and leaves it so (R24). -/
theorem pairsAgree_started {s : State} (h : PairsAgree s) (early : s.partState ≠ .running) :
    PairsAgree (startedState s) := by
  obtain ⟨owners, apart, agree⟩ := (pairsAgree_iff s).mp h
  refine (pairsAgree_iff _).mpr ⟨fun p n => ?_, fun n o b ho => ?_, fun n o ho => ?_⟩
  · rw [object_startedState]
    refine (owners p n).trans ?_
    cases s.object n <;> simp [Obj.started]
  · rw [object_startedState] at ho
    obtain ⟨x, hx, rfl⟩ := Option.map_eq_some_iff.mp ho
    exact apart n x b hx
  · rw [object_startedState] at ho
    obtain ⟨x, hx, rfl⟩ := Option.map_eq_some_iff.mp ho
    obtain ⟨live, unproven⟩ := (agree n x hx).fresh early
    refine ⟨fun hs => absurd rfl hs, fun b hb => ?_, fun _ _ _ hn => absurd rfl hn⟩
    exact pairAtRest_of_view (by simp [viewOf, Obj.started, live, unproven]) ((agree n x hx).rest b hb)

/-- The part state moves on before RUNNING. -/
theorem pairsAgree_early {s t : State} (h : PairsAgree s) (early : s.partState ≠ .running)
    (objects : t.objects = s.objects) (points : t.points = s.points) : PairsAgree t := by
  obtain ⟨owners, apart, agree⟩ := (pairsAgree_iff s).mp h
  have object := object_of_objects objects
  refine (pairsAgree_iff _).mpr ⟨fun p n => ?_, fun n o b ho => apart n o b (object n ▸ ho), fun n o ho => ?_⟩
  · rw [point_of_points points, object n]
    exact owners p n
  · have agrees := agree n o (object n ▸ ho)
    have fresh := agrees.fresh early
    exact ⟨fun _ => fresh, agrees.rest, fun _ _ _ hn => absurd fresh.2 hn⟩

theorem pairsAgree_of_empty {s : State} (objects : ∀ n, s.object n = none) (owners : ∀ p, (s.point p).owner = none) :
    PairsAgree s := by
  refine (pairsAgree_iff s).mpr ⟨fun p n => ?_, fun n o b ho => ?_, fun n o ho => ?_⟩
  · rw [owners p, objects n]
    simp
  · rw [objects n] at ho
    cases ho
  · rw [objects n] at ho
    cases ho

theorem pairsAgree_of_effect {s t : State} (h : Effect s t) (hs : PairsAgree s) : PairsAgree t := by
  cases h with
  | aside h =>
    unfold Aside at h
    rw [h]
    exact pairsAgree_of_fields hs rfl rfl rfl
  | requested src c =>
    obtain ⟨u, r, h⟩ := request_queuesOnly src c s
    rw [h]
    exact pairsAgree_of_fields hs rfl rfl rfl
  | rawTransition p =>
    refine pairsAgree_of_same hs rfl rfl fun q => ?_
    unfold rawTransition
    rw [point_setPoint]
    split
    · rename_i hq
      subst hq
      exact ⟨rfl, rfl⟩
    · exact ⟨rfl, rfl⟩
  | edgeUnheard p _ _ unheard => exact pairsAgree_edgeUnheard hs unheard
  | edgeHeard p n o _ due running owner live => exact pairsAgree_edgeHeard hs due running owner live
  | objectChanged n o x _ found change => exact pairsAgree_objectChanged hs found change
  | objectDefined f _ _ _ early accepted =>
    obtain ⟨k, urgent, n, hk, -, -, new, unowned, rfl, -⟩ := defineObjectForm_ok accepted
    exact pairsAgree_addObject hs new unowned fun b => points_differ_of_form hk
  | outputDefined f _ _ _ _ accepted =>
    obtain ⟨i, -, -, -, -, rfl, -⟩ := defineOutputForm_ok accepted
    exact pairsAgree_of_fields hs rfl rfl rfl
  | started _ early => exact pairsAgree_started hs early
  | configured status _ loading => exact pairsAgree_early hs (by simp [loading]) rfl rfl
  | resetTaken =>
    refine pairsAgree_of_empty (fun n => get_replicate none n) fun p => ?_
    simp [State.point, takeReset, Point.reset]
  | resetEnded straps contacts =>
    refine pairsAgree_of_same hs rfl rfl fun p => ?_
    simp [State.point, endReset]
  | _ => exact pairsAgree_of_fields hs rfl rfl rfl

/-- Settles O60: every effect keeps the agreement, an accepted edge by the table of section 3.6. -/
theorem pairsStayInAgreement : Obligations.PairsStayInAgreement := by
  unfold Obligations.PairsStayInAgreement
  exact fun s t hs hstep => step_keeps pairsAgree_of_effect hs hstep

end Sys2Proof.Proofs.Agreement
end

section
/-! The steps: the front command, the clock's own step, the events that are due or not, and reset. -/

namespace Sys2Proof.Proofs.Steps

open Sys2Proof.Machine Sys2Proof.Safety Sys2Proof.Laws

variable {s : State}

/-! ### The queue and the clock's own step -/

/-- Settles O1: the step takes the front command by definition. -/
theorem stepRunsFrontCommand : Obligations.StepRunsFrontCommand := by
  unfold Obligations.StepRunsFrontCommand
  exact fun _ _ _ => rfl

theorem freePick_mem {α : Type} (k : Nat) (x : α) (xs : List α) : freePick k x xs ∈ x :: xs := by
  cases xs with
  | nil => exact List.mem_singleton_self x
  | cons y ys =>
    have bound : Config.freeIndex k % (x :: y :: ys).length < (x :: y :: ys).length := Nat.mod_lt _ (by simp)
    rw [freePick, List.getElem?_eq_getElem bound]
    · exact List.getElem_mem bound
    · simp

theorem step_empty (h : s.pending = []) : step s = tick s := by
  unfold step
  split
  · simp_all
  · rfl

theorem tick_reset (h : s.inReset = true) : tick s = .next s := by
  simp [tick, h]

theorem tick_quiet (awake : s.inReset = false) (h : dueEvents s = []) : tick s = .next (advance s) := by
  simp [tick, awake, h]

theorem tick_due (awake : s.inReset = false) (h : dueEvents s ≠ []) :
    ∃ e ∈ dueEvents s, tick s = exec e (drawn s) := by
  cases hd : dueEvents s with
  | nil => exact absurd hd h
  | cons e es => exact ⟨freePick s.free e es, freePick_mem _ _ _, by simp [tick, awake, hd]⟩

/-- Settles O2: the branches of the clock's step, with what is due read off the conditions of the rules. -/
theorem emptyQueueStep : Obligations.EmptyQueueStep := by
  unfold Obligations.EmptyQueueStep
  refine ⟨fun s hp => ?_, mem_dueEvents_iff, reached_after⟩
  rw [step_empty hp]
  exact ⟨tick_reset, tick_quiet, tick_due⟩

/-! ### Events that are due, and events that are not -/

theorem whenDue_due {due : Bool} (f : State → State) (awake : s.inReset = false) (h : due = true) :
    whenDue due f s = .next (schedule (f s)) := by
  simp [whenDue, awake, h, finish]

theorem whenDue_idle {due : Bool} (f : State → State) (h : s.inReset = true ∨ due = false) :
    whenDue due f s = .next s := by
  rcases h with h | h <;> simp [whenDue, h]

/-- An event leaves the module as it is where the condition its test stands for does not hold. -/
theorem whenDue_not {due : Bool} {P : Prop} (test : due = true ↔ P) (f : State → State) (h : s.inReset = true ∨ ¬ P) :
    whenDue due f s = .next s :=
  whenDue_idle f (h.imp_right fun hp => Bool.eq_false_iff.mpr (mt test.mp hp))

theorem deaf_of (h : s.inReset = true ∨ s.rx.closed = true) : s.deaf = true := by
  rcases h with h | h <;> simp [State.deaf, h]

theorem controlMessage_deaf (type : Byte) (m : Handler) (body : List Byte) (h : s.deaf = true) :
    controlMessage type m body s = .next s := by
  simp [controlMessage, h]

theorem isLengthError_iff (b : Byte) (s : State) :
    isLengthError b s = true ↔ s.rx.closed = false ∧ s.rx.phase = .length ∧ badLen b = true := by
  simp [isLengthError, and_assoc]

theorem isCheckError_iff (b : Byte) (s : State) :
    isCheckError b s = true ↔ s.rx.closed = false ∧ s.rx.phase = .collect
      ∧ frameComplete (s.rx.kept ++ [(b, s.clock)]) = true ∧ checkGood (s.rx.kept ++ [(b, s.clock)]) = false := by
  simp [isCheckError, and_assoc]

theorem badLen_eq_false {b : Byte} : badLen b = false ↔ 1 ≤ b.toNat ∧ b.toNat ≤ 250 := by
  simp [badLen]
  omega

/-- A complete frame has at least the two check bytes after as many bytes as its LEN says. -/
theorem frameComplete_exists {kept : List (Byte × Time)} (h : frameComplete kept = true) :
    ∃ start len rest, kept.map Prod.fst = start :: len :: rest ∧ len.toNat + 2 ≤ rest.length := by
  match kept, h with
  | x :: y :: rest, h =>
    have needs : y.1.toNat + 4 ≤ rest.length + 2 := of_decide_eq_true (Bool.and_eq_true_iff.mp h).2
    exact ⟨x.1, y.1, rest.map Prod.fst, rfl, by simpa using by omega⟩

theorem referenceDue_none (h : ¬ ReferenceDue s) : referenceDue s = none :=
  Option.not_isSome_iff_eq_none.mp (mt (referenceDue_iff s).mp h)

theorem pointGateDue_none (h : ¬ PointGateDue s) : pointGateDue s = none :=
  Option.not_isSome_iff_eq_none.mp (mt (pointGateDue_iff s).mp h)

theorem referenceGateEnd_idle (count : Nat) (h : s.inReset = true ∨ ¬ ReferenceDue s) :
    exec (.referenceGateEnd count) s = .next s := by
  change execReferenceGateEnd count s = _
  unfold execReferenceGateEnd
  split
  · rename_i m hm
    exact whenDue_idle _ (.inl (h.resolve_right fun hn => nomatch hm.symm.trans (referenceDue_none hn)))
  · rfl

theorem pointGateEnd_idle (count : Nat) (h : s.inReset = true ∨ ¬ PointGateDue s) :
    exec (.pointGateEnd count) s = .next s := by
  change execPointGateEnd count s = _
  unfold execPointGateEnd
  split
  · rename_i m c hm
    exact whenDue_idle _ (.inl (h.resolve_right fun hn => nomatch hm.symm.trans (pointGateDue_none hn)))
  · rfl

theorem storeEnd_idle (good : Bool) (h : s.inReset = true ∨ s.store = none) : exec (.storeEnd good) s = .next s := by
  change execStoreEnd good s = _
  unfold execStoreEnd
  split
  · rename_i job hs
    exact whenDue_idle _ (.inl (h.resolve_right fun hn => nomatch hs.symm.trans hn))
  · rfl

theorem frameSent_idle (h : s.inReset = true ∨ s.tx = none) : exec .frameSent s = .next s := by
  change execFrameSent s = _
  unfold execFrameSent
  split
  · rename_i x hx
    exact whenDue_idle _ (.inl (h.resolve_right fun hn => nomatch hx.symm.trans hn))
  · rfl

theorem lengthError_idle (b : Byte) (h : s.inReset = true ∨ s.rx.closed = true ∨ s.rx.phase ≠ .length ∨ badLen b = false) :
    exec (.lengthError b) s = .next s :=
  whenDue_not (isLengthError_iff b s) _ <| h.imp_right fun h ⟨opened, phase, bad⟩ => by
    rcases h with h | h | h <;> simp_all

theorem checkError_idle (b : Byte) (h : s.inReset = true ∨ s.rx.closed = true ∨ s.rx.phase ≠ .collect
      ∨ frameComplete (s.rx.kept ++ [(b, s.clock)]) = false ∨ checkGood (s.rx.kept ++ [(b, s.clock)]) = true) :
    exec (.checkError b) s = .next s :=
  whenDue_not (isCheckError_iff b s) _ <| h.imp_right fun h ⟨opened, phase, complete, bad⟩ => by
    rcases h with h | h | h | h <;> simp_all

theorem frameAbandon_idle (h : s.inReset = true ∨ gapDue s = false) : exec .frameAbandon s = .next s :=
  whenDue_idle _ h

theorem gapDue_closed (h : s.rx.closed = true) : gapDue s = false := by simp [gapDue, h]

/-- Nothing is received in reset or after a Reset has closed the receiver. -/
theorem deaf_ignores (h : s.inReset = true ∨ s.rx.closed = true) :
    (∀ m ∈ messageTable, ∀ body, exec (m.make body) s = .next s)
    ∧ (∀ t body, exec (.unknownType t body) s = .next s) ∧ (∀ b, exec (.byteTaken b) s = .next s)
    ∧ (∀ b, exec (.lengthError b) s = .next s) ∧ (∀ b, exec (.checkError b) s = .next s)
    ∧ exec .frameAbandon s = .next s := by
  have deaf := deaf_of h
  refine ⟨fun m hm body => ?_, fun t body => ?_, fun b => ?_, fun b => ?_, fun b => ?_, ?_⟩
  · rw [GoodFrames.exec_of_messageTable hm]
    exact controlMessage_deaf _ _ _ deaf
  · change execUnknownType t body s = _
    unfold execUnknownType
    split
    · rfl
    · exact controlMessage_deaf _ _ _ deaf
  · change execByteTaken b s = _
    simp [execByteTaken, deaf]
  · exact lengthError_idle b (h.imp_right .inl)
  · exact checkError_idle b (h.imp_right .inl)
  · exact frameAbandon_idle (h.imp_right gapDue_closed)

/-- Settles O5: each event's test stands for the condition of its rule, and a failed test does nothing. -/
theorem nothingDueNothingDone : Obligations.NothingDueNothingDone := by
  unfold Obligations.NothingDueNothingDone
  intro s
  refine ⟨deaf_ignores, fun t body ht => ?_, fun b h => ?_, fun b h => ?_, fun b h => ?_,
    fun start len type body hi lo h hlen hcrc => ?_, fun h => ?_, fun h => ?_, fun h p => ?_,
    fun p => whenDue_not (edgeDue_iff s p) _, fun n => whenDue_not (settleDue_iff s n) _,
    fun n => whenDue_not (transitDue_iff s n) _, fun n => whenDue_not (conflictDue_iff s n) _,
    fun n => whenDue_not (steadyDue_iff s n) _, whenDue_not (boundaryDue_iff s) _,
    fun i => whenDue_not (pulseEndDue_iff s i) _, fun i => whenDue_not (driverFaultDue_iff s i) _,
    fun i => whenDue_not (proofDue_iff s i) _, whenDue_not (silenceDue_iff s) _, whenDue_not (attemptDue_iff s) _,
    referenceGateEnd_idle, pointGateEnd_idle, fun r => whenDue_not decide_eq_true_iff _, storeEnd_idle,
    whenDue_not (flashDue_iff s) _, frameSent_idle, fun h straps contacts => ?_⟩
  · change execUnknownType t body s = _
    simp [execUnknownType, ht]
  · exact lengthError_idle b (.inr (.inr (h.imp_right badLen_eq_false.mpr)))
  · exact checkError_idle b (.inr (.inr (.inl h)))
  · refine checkError_idle b (.inr (.inr (.inr (.inl (Bool.eq_false_iff.mpr fun complete => ?_)))))
    obtain ⟨start, len, rest, hkept, long⟩ := frameComplete_exists complete
    rw [List.map_append] at hkept
    exact absurd (h start len rest hkept) (by omega)
  · refine checkError_idle lo (.inr (.inr (.inr (.inr ?_))))
    refine (FrameCheck.checkGood_iff (start := start) ?_ hlen).mpr hcrc
    simp [keptBytes, h]
  · exact frameAbandon_idle (.inr (by simp [gapDue, h]))
  · refine frameAbandon_idle (.inr (Bool.eq_false_iff.mpr fun due => ?_))
    obtain ⟨-, -, x, hx, gap⟩ := (gapDue_iff s).mp due
    exact absurd (h x hx) (by omega)
  · exact whenDue_idle _ (.inl h)
  · change execResetEnd straps contacts s = _
    simp [execResetEnd, h]

/-! ### Reset -/

theorem eachSourceOnce_reset : EachSourceOnce State.reset := List.nodup_nil

theorem sourcesDefined_reset : SourcesDefined State.reset where
  queued _ he := nomatch he
  snapshot _ _ hp := nomatch hp

theorem reset_object (n : ObjId) : State.reset.object n = none := get_replicate none n

theorem reset_output (i : OutId) : State.reset.output i = none := get_replicate none i

theorem reset_point (p : PointId) : State.reset.point p = Point.reset .opn := get_replicate _ p

theorem reset_proof (i : OutId) : State.reset.proof i = Proof.reset := get_replicate _ i

theorem reset_healthOf (p : PointId) : State.reset.healthOf p = Health.reset := get_replicate _ p

theorem partnersFit_reset : PartnersFit State.reset where
  notItself i x h := by rw [reset_output] at h; cases h
  mutual_ h := nomatch h

theorem proofsFit_reset : ProofsFit State.reset where
  running i h := by rw [reset_proof] at h; exact absurd rfl h
  deadline i := by rw [reset_proof]; simp [Proof.reset]

theorem countsInRange_reset : CountsInRange State.reset where
  reference _ _ h := nomatch h
  points p := by rw [reset_point]; simp [Point.reset]
  objects n o h := by rw [reset_object] at h; cases h
  outputs i x h := by rw [reset_output] at h; cases h
  health p := by rw [reset_healthOf]; exact ⟨by decide, by decide, by decide, by decide⟩
  link := ⟨by decide, by decide, by decide, by decide, by decide, by decide⟩

/-- Settles O3: the values of State.reset read off its definition, and the invariants over its empty tables. -/
theorem resetState : Obligations.ResetState := by
  unfold Obligations.ResetState
  have driver : ∀ i, State.reset.driverOn i = false := fun i => by simp [State.driverOn, reset_output]
  refine ⟨⟨rfl, rfl, rfl, rfl, rfl, fun p => ?_, fun g => get_replicate _ g, rfl, rfl, rfl, rfl,
    fun i => get_replicate _ i, reset_object, reset_output, rfl, rfl, rfl, rfl, rfl, rfl, rfl, reset_proof, rfl, rfl, rfl,
    reset_healthOf, rfl, rfl, rfl, rfl⟩, eachSourceOnce_reset, sourcesDefined_reset, fun _ => rfl, fun _ => driver,
    partnersFit_reset, fun i x j _ _ both => ?_, proofsFit_reset, countsInRange_reset,
    Agreement.pairsAgree_of_empty reset_object fun p => ?_⟩
  · rw [reset_point]
    exact ⟨rfl, rfl, rfl, rfl, rfl, rfl⟩
  · rw [driver] at both
    exact absurd both.1 (by simp)
  · rw [reset_point]
    rfl

theorem not_ne_self (x : Word16) : ~~~x ≠ x := fun h => by
  have bit := congrArg (fun w => w.getLsbD 0) h
  simp at bit

theorem otherThan_ne (x y : Word16) : otherThan x y ≠ x := by
  unfold otherThan
  split
  · rename_i h
    subst h
    exact not_ne_self y
  · assumption

theorem check_partial (signature : Word16) (k : Nat) :
    (ConfigMemory.partial_ signature k).check ≠ crc (ConfigMemory.partial_ signature k).content :=
  otherThan_ne _ _

theorem baudOfStraps_cases (straps : BitVec 2) : (straps = 0 → baudOfStraps straps = .b19200)
    ∧ (straps = 1 → baudOfStraps straps = .b38400) ∧ (straps = 2 → baudOfStraps straps = .b57600)
    ∧ (straps = 3 → baudOfStraps straps = .b115200) := by
  revert straps
  decide

/-- Settles O4: a reset is State.reset but for what stands outside; its end samples the straps and the contacts. -/
theorem resetTakenAndEnded : Obligations.ResetTakenAndEnded := by
  unfold Obligations.ResetTakenAndEnded
  refine ⟨fun s => ⟨memoryAtReset s, if s.store.isSome then s.free + 1 else s.free, rfl, fun h => ?_, fun h => ?_⟩,
    fun s straps contacts h => ⟨endReset straps contacts s, ?_, ?_, ?_⟩⟩
  · simp [memoryAtReset, h]
  · have cut : memoryAtReset s = .partial_ signatureGW s.free := by
      simp [memoryAtReset, Option.isSome_iff_ne_none.mpr h]
    rw [cut]
    exact ⟨rfl, check_partial _ _⟩
  · change execResetEnd straps contacts s = _
    simp [execResetEnd, h]
  · rfl
  · obtain ⟨b0, b1, b2, b3⟩ := baudOfStraps_cases straps
    exact ⟨b0, b1, b2, b3, fun p => get_ofFn _ p⟩

/-! ### The end of a frame -/

theorem frameSent_due {x : Transmission} (awake : s.inReset = false) (h : s.tx = some x) :
    exec .frameSent s = .next (schedule (frameFinished x s)) := by
  change execFrameSent s = _
  simp only [execFrameSent, h]
  exact whenDue_due (frameFinished x) awake rfl

theorem takeReset_schedule (s : State) : schedule (takeReset s) = takeReset s :=
  schedule_quiet rfl

/-- Settles O55: what follows the frame decides; a frame that follows keeps the transmitter busy. -/
theorem frameEnds : Obligations.FrameEnds := by
  unfold Obligations.FrameEnds
  intro s x awake ht
  rw [frameSent_due awake ht]
  refine ⟨fun f fs parts => ?_, fun parts last => ?_, fun parts last => ?_⟩
  · rw [frameFinished, parts]
    exact congrArg _ (schedule_busy rfl)
  · simp only [frameFinished, parts, last, if_true, takeReset_schedule]
    rfl
  · simp only [LeadsTo, frameSent_due awake ht, frameFinished, parts, last, Bool.false_eq_true, if_false]

/-! ### The lamps -/

theorem faultedOutputs_pos : 0 < s.faultedOutputs ↔ ∃ i x, s.output i = some x ∧ x.state = .faulted := by
  simp [State.faultedOutputs, List.length_pos_iff_exists_mem, Option.any_eq_true]

/-- Settles O36: each lamp is its own condition. -/
theorem lamps : Obligations.Lamps := by
  unfold Obligations.Lamps
  refine ⟨fun s awake configuring due => whenDue_due _ awake ((flashDue_iff s).mpr ⟨configuring, due⟩),
    fun s => ⟨fun reset => ?_, fun awake => ⟨fun h => ?_, fun h => ?_, fun h => ?_, ?_, ?_⟩⟩⟩
  · simp [State.runLamp, State.linkLamp, State.alarmLamp, reset]
  · simp [State.runLamp, awake, h]
  · simp [State.runLamp, awake, h]
  · simp [State.runLamp, awake, h]
  · simp [State.linkLamp, awake]
  · simp [State.alarmLamp, awake, faultedOutputs_pos, or_assoc]

/-! ### Sense points -/

/-- Settles O12: a raw transition replaces the record of its point. -/
theorem rawTransition : Obligations.RawTransition := by
  unfold Obligations.RawTransition
  intro s p awake
  refine (whenDue_due (Machine.rawTransition p) awake rfl).trans ?_
  have flip : (s.point p).raw.flip = if (s.point p).raw = .made then .opn else .made := by
    cases (s.point p).raw <;> rfl
  simp only [Machine.rawTransition, Point.transition, Point.filtering, State.filterUnits, msUnits, flip,
    decide_eq_true_eq, satInc]

theorem point_accepted_same (p : PointId) (s : State) : (Effects.accepted p s).point p = (s.point p).accept := by
  obtain ⟨m, h⟩ := Effects.accepted_eq p s
  rw [h]
  exact upd_get_same _ _ _

theorem point_accepted_ne {p q : PointId} (h : q ≠ p) (s : State) : (Effects.accepted p s).point q = s.point q := by
  obtain ⟨m, hm⟩ := Effects.accepted_eq p s
  rw [hm]
  exact upd_get_ne _ _ h

theorem measuring_iff (s : State) (p : PointId) : measuring s p = true ↔ ∃ m, s.measure = some m ∧ m.point = p := by
  simp [measuring, Option.any_eq_true]

theorem measure_accepted (p : PointId) (s : State) : (Effects.accepted p s).measure
    = if (s.point p).raw = .opn ∧ (∃ m, s.measure = some m ∧ m.point = p) then none else s.measure := by
  simp only [Effects.accepted, discardOnOpen, measuring_iff, setPoint_measure]
  split <;> rfl

/-- Settles O13: the edge is evaluated in the state the acceptance leaves, at a live owner in RUNNING alone. -/
theorem edgeAccepted : Obligations.EdgeAccepted := by
  unfold Obligations.EdgeAccepted
  intro s p awake moved lasted
  have due : exec (.edgeAccept p) s = .next (schedule (acceptEdge p s)) :=
    whenDue_due (acceptEdge p) awake ((edgeDue_iff s p).mpr ⟨moved, lasted⟩)
  obtain ⟨m, hm⟩ := Effects.accepted_eq p s
  refine ⟨Effects.accepted p s, ?_, point_accepted_same p s, fun q hq => point_accepted_ne hq s, measure_accepted p s,
    fun n o running owner found live => ?_, fun asleep => ?_⟩
  · rw [hm]
  · rw [LeadsTo, due, Effects.acceptEdge_heard running owner (live_eq_some.mpr ⟨found, live⟩)]
    rfl
  · rw [LeadsTo, due, Effects.acceptEdge_unheard fun n o running owner live => ?_]
    obtain ⟨found, hl⟩ := live_eq_some.mp live
    rw [asleep n o running owner found] at hl
    cases hl

end Sys2Proof.Proofs.Steps
end

section
/-! The receiver under a message: a hunting receiver stays hunting, whatever message is executed. -/

namespace Sys2Proof.Proofs.Hunt

open Sys2Proof.Machine Sys2Proof.Safety Sys2Proof.Laws

/-- The receiver is in HUNT with nothing kept. -/
def Hunting (s : State) : Prop := s.rx.phase = .hunt ∧ s.rx.kept = []

section Outcome

variable {s t u : State} {f g : Executed}

theorem Hunting.of_rx (h : Hunting s) (same : t.rx = s.rx) : Hunting t := by
  unfold Hunting
  rw [same]
  exact h

theorem Hunting.objectSide (h : Hunting s) (side : ObjectSide s t) : Hunting t := by
  obtain ⟨_, _, _, _, _, _, rfl⟩ := side
  exact h

theorem Hunting.outputSide (h : Hunting s) (side : OutputSide s t) : Hunting t := h.objectSide side.objectSide

theorem Hunting.sendSide (h : Hunting s) (side : SendSide s t) : Hunting t := by
  obtain ⟨_, _, _, _, _, _, _, _, _, rfl⟩ := side
  exact h

theorem Hunting.foldl {α : Type} {step : State → α → State} (keeps : ∀ t a, (step t a).rx = t.rx) :
    ∀ (l : List α) {s : State}, Hunting s → Hunting (l.foldl step s)
  | [], _, h => h
  | a :: l, s, h => Hunting.foldl keeps l (h.of_rx (keeps s a))

theorem hunting_hunt (s : State) : Hunting (hunt s) := ⟨rfl, rfl⟩

theorem hunting_schedule (h : Hunting s) : Hunting (schedule s) := h.sendSide (schedule_sendSide s)

theorem hunting_inConfiguring (hs : Hunting s) (h : Hunting f.1) : Hunting (inConfiguring s f).1 := by
  unfold inConfiguring
  split
  · exact hs
  · exact hs
  · exact h

theorem hunting_inRunning (hs : Hunting s) (h : Hunting f.1) : Hunting (inRunning s f).1 := by
  unfold inRunning
  split
  · exact hs
  · exact hs
  · exact h

theorem hunting_afterLoading (hs : Hunting s) (h : Hunting f.1) : Hunting (afterLoading s f).1 := by
  unfold afterLoading
  split
  · exact hs
  · exact h
  · exact h

theorem hunting_ite {c : Prop} [Decidable c] (hf : Hunting f.1) (hg : Hunting g.1) : Hunting (if c then f else g).1 := by
  split
  · exact hf
  · exact hg

theorem hunting_ite_state {c : Prop} [Decidable c] (ht : Hunting t) (hu : Hunting u) : Hunting (if c then t else u) := by
  split
  · exact ht
  · exact hu

theorem hunting_request (h : Hunting s) (src : Source) (c : ReportClass) : Hunting (request src c s) :=
  h.objectSide (request_queuesOnly src c s).objectSide

theorem hunting_addObject (n : ObjId) (d : ObjDef) (h : Hunting s) : Hunting (addObject n d s) :=
  Hunting.foldl (step := own n) (fun _ _ => rfl) d.points (s := s.setObject n (Obj.define d)) h

theorem hunting_defined {r : Except AnswerCode (State × Bool)} (hs : Hunting s)
    (h : ∀ t moved, r = .ok (t, moved) → Hunting t) : Hunting (defined r s).1 := by
  unfold defined
  split
  · exact h _ _ rfl
  · exact hs

end Outcome

/-- A message leaves a hunting receiver hunting. -/
def KeepsHunting (m : Handler) : Prop := ∀ body s, Hunting s → Hunting (m body s).1

theorem defineObject_hunting : KeepsHunting msgDefineObject := by
  intro body s hs
  refine hunting_inConfiguring hs ?_
  split
  · refine hunting_defined hs fun t moved ht => ?_
    obtain ⟨k, urgent, n, -, -, -, -, -, rfl, -⟩ := Effects.defineObjectForm_ok ht
    exact hunting_addObject _ _ hs
  · exact hs

theorem defineOutput_hunting : KeepsHunting msgDefineOutput := by
  intro body s hs
  refine hunting_inConfiguring hs ?_
  split
  · refine hunting_defined hs fun t moved ht => ?_
    obtain ⟨i, -, -, -, -, rfl, -⟩ := Effects.defineOutputForm_ok ht
    exact hs
  · exact hs

theorem setBands_hunting : KeepsHunting msgSetBands := by
  intro body s hs
  refine hunting_inConfiguring hs ?_
  split
  · split <;> exact hs
  · exact hs

theorem setGroup_hunting : KeepsHunting msgSetGroup := by
  intro body s hs
  refine hunting_afterLoading hs ?_
  split
  · split
    · exact hunting_ite_state hs hs
    · exact hs
  · exact hs

theorem setPartTiming_hunting : KeepsHunting msgSetPartTiming := by
  intro body s hs
  refine hunting_afterLoading hs ?_
  split
  · exact hunting_ite hs (hunting_ite hs hs)
  · exact hs

theorem setReporting_hunting : KeepsHunting msgSetReporting := by
  intro body s hs
  refine hunting_afterLoading hs ?_
  split
  · refine hunting_ite hs ?_
    split
    · rename_i mode pos _ _
      exact hs.of_rx (by cases mode <;> cases pos <;> rfl)
    · exact hs
  · exact hs

theorem setSurvey_hunting : KeepsHunting msgSetSurvey := by
  intro body s hs
  refine hunting_afterLoading hs ?_
  split
  · exact hunting_ite hs hs
  · exact hs

theorem adjustObject_hunting : KeepsHunting msgAdjustObject := by
  intro body s hs
  refine hunting_inRunning hs ?_
  split
  · refine hunting_ite hs ?_
    split
    · exact hunting_ite hs (hs.objectSide (applyStep_objectSide _ _ s))
    · exact hs
  · exact hs

theorem adjustOutput_hunting : KeepsHunting msgAdjustOutput := by
  intro body s hs
  refine hunting_inRunning hs ?_
  split
  · refine hunting_ite hs ?_
    split <;> exact hs
  · exact hs

theorem hunting_performStart {s : State} (hs : Hunting s) : Hunting (performStart s) := by
  unfold performStart
  refine Hunting.outputSide ?_ (outputSide_foldl _ (fun t i => sampleDriver_outputSide i t) _ _)
  exact hs

theorem start_hunting : KeepsHunting msgStart := by
  intro body s hs
  refine hunting_inConfiguring hs (hunting_ite hs ?_)
  split
  · exact hs
  · simp only [done]
    exact hunting_performStart hs

theorem suspendObject_hunting : KeepsHunting msgSuspendObject := by
  intro body s hs
  refine hunting_inRunning hs ?_
  split
  · split
    · refine hunting_ite_state (hunting_request ?_ _ _) hs
      unfold discardOfObject
      exact Hunting.of_rx (hunting_ite_state (t := s) (u := s) (c := True) hs hs) (by split <;> rfl)
    · exact hs
  · exact hs

theorem resumeObject_hunting : KeepsHunting msgResumeObject := by
  intro body s hs
  refine hunting_inRunning hs ?_
  split
  · split
    · exact hunting_ite_state (hs.objectSide (applyStep_objectSide _ _ s)) hs
    · exact hs
  · exact hs

theorem pulseOutput_hunting : KeepsHunting msgPulseOutput := by
  intro body s hs
  refine hunting_inRunning hs ?_
  split
  · split
    · exact hunting_ite hs (hunting_ite hs (hunting_ite hs (hs.outputSide (pulse_outputSide _ s))))
    · exact hs
  · exact hs

theorem latchOutput_hunting : KeepsHunting msgLatchOutput := by
  intro body s hs
  refine hunting_inRunning hs ?_
  split
  · split
    · exact hunting_ite hs (hunting_ite hs (hunting_ite hs (hs.outputSide (latch_outputSide _ _ s))))
    · exact hs
  · exact hs

theorem hunting_release {s : State} (i : OutId) (x : Output) (hs : Hunting s) : Hunting (release i x s).1 := by
  unfold release
  split
  · exact hs
  · exact hs.outputSide (endPulse_outputSide i s)
  · exact hs.outputSide (enterState_outputSide i .off s)
  · exact hunting_ite hs (hunting_request (hs.outputSide (enterState_outputSide i .off s)) _ _)

theorem releaseOutput_hunting : KeepsHunting msgReleaseOutput := by
  intro body s hs
  refine hunting_inRunning hs ?_
  split
  · split
    · exact hunting_release _ _ hs
    · exact hs
  · exact hs

theorem groupPulse_hunting : KeepsHunting msgGroupPulse := by
  intro body s hs
  refine hunting_inRunning hs ?_
  split
  · split
    · exact hunting_ite hs (hunting_ite hs (hunting_ite hs (hs.outputSide (groupPulse_outputSide _ _ s))))
    · exact hs
  · exact hs

theorem releaseAll_hunting : KeepsHunting msgReleaseAll := by
  intro body s hs
  refine hunting_inRunning hs (hunting_ite hs ?_)
  simp only [done]
  exact hs.outputSide (releaseEvery_outputSide s)

theorem snapshot_hunting : KeepsHunting msgSnapshot := fun _ _ hs =>
  hunting_inRunning hs (hunting_ite hs (hunting_ite hs hs))

theorem readObject_hunting : KeepsHunting msgReadObject := by
  intro body s hs
  refine hunting_afterLoading hs ?_
  split
  · split <;> exact hs
  · exact hs

theorem readOutput_hunting : KeepsHunting msgReadOutput := by
  intro body s hs
  refine hunting_afterLoading hs ?_
  split
  · split <;> exact hs
  · exact hs

theorem readPoints_hunting : KeepsHunting msgReadPoints := by
  intro body s hs
  refine hunting_afterLoading hs ?_
  split <;> exact hs

theorem hunting_clearHealth {s : State} (points : List PointId) (hs : Hunting s) : Hunting (clearHealth points s) :=
  Hunting.foldl (step := fun t p => t.setHealth p (t.healthOf p).cleared) (fun _ _ => rfl) points hs

theorem readHealth_hunting : KeepsHunting msgReadHealth := by
  intro body s hs
  refine hunting_afterLoading hs ?_
  split
  · split
    · exact hunting_ite_state (hunting_clearHealth _ hs) hs
    · exact hs
  · exact hs

theorem readClock_hunting : KeepsHunting msgReadClock := fun _ _ hs => hunting_ite hs hs

theorem readStatus_hunting : KeepsHunting msgReadStatus := fun _ _ hs => hunting_ite hs hs

theorem storeImage_hunting : KeepsHunting msgStoreImage := by
  intro body s hs
  refine hunting_afterLoading hs (hunting_ite hs ?_)
  split
  · exact hunting_ite hs (hunting_ite hs (hunting_ite hs hs))
  · exact hs

theorem reset_hunting : KeepsHunting msgReset := fun _ _ hs =>
  hunting_afterLoading hs (hunting_ite hs ⟨rfl, rfl⟩)

theorem unknown_hunting : KeepsHunting msgUnknown := fun _ _ hs => hs

theorem handlers_hunting : ∀ m ∈ handlers, KeepsHunting m := by
  simp only [handlers, List.cons_append, List.nil_append, List.forall_mem_cons]
  exact ⟨defineObject_hunting, defineOutput_hunting, setBands_hunting, setGroup_hunting, setPartTiming_hunting,
    setReporting_hunting, setSurvey_hunting, adjustObject_hunting, adjustOutput_hunting, start_hunting,
    suspendObject_hunting, resumeObject_hunting, pulseOutput_hunting, latchOutput_hunting, releaseOutput_hunting,
    groupPulse_hunting, releaseAll_hunting, snapshot_hunting, readObject_hunting, readOutput_hunting, readPoints_hunting,
    readHealth_hunting, readClock_hunting, readStatus_hunting, storeImage_hunting, reset_hunting, unknown_hunting,
    List.forall_mem_nil _⟩

theorem hunting_received (s : State) : Hunting (received s) :=
  (hunting_hunt s).of_rx (received_rx s)

/-- The receipt of a good frame leaves the receiver hunting. -/
theorem hunting_receive {m : Handler} (hm : m ∈ handlers) (type : Byte) (body : List Byte) (s : State) :
    Hunting (receive type m body (hunt s)) := by
  unfold receive
  exact hunting_ite_state (hunting_received s) (handlers_hunting m hm body _ (hunting_received s))

theorem gapDue_hunting {s : State} (h : Hunting s) : gapDue s = false := by
  simp [gapDue, h.1]

end Sys2Proof.Proofs.Hunt
end

section
/-! The receiver: what one byte does, the pass over the bytes a discard gives back, and a whole frame. -/

namespace Sys2Proof.Proofs.Receiving

open Sys2Proof.Machine Sys2Proof.Safety Sys2Proof.Laws Sys2Proof.Proofs.Hunt

variable {s : State} {b : Byte} {at_ : Time}

/-! ### One byte, by the phase -/

/-- The receiver in a phase, open, with some bytes kept. -/
def keeping (phase : RxPhase) (kept : List (Byte × Time)) (s : State) : State :=
  { s with rx := { phase := phase, kept := kept, closed := false } }

theorem hunt_open (opened : s.rx.closed = false) : hunt s = keeping .hunt [] s := by
  simp [hunt, keeping, opened]

theorem takeByte_sof (opened : s.rx.closed = false) (phase : s.rx.phase = .hunt) :
    takeByte sof at_ s = (keeping .length [(sof, at_)] s, []) := by
  simp [takeByte, keeping, opened, phase]

theorem takeByte_noise (opened : s.rx.closed = false) (phase : s.rx.phase = .hunt) (h : b ≠ sof) :
    takeByte b at_ s = (s, []) := by
  simp [takeByte, opened, phase, h]

theorem takeByte_len (opened : s.rx.closed = false) (phase : s.rx.phase = .length) (good : badLen b = false) :
    takeByte b at_ s = (keeping .collect (s.rx.kept ++ [(b, at_)]) s, []) := by
  simp [takeByte, keeping, opened, phase, good]

theorem takeByte_badLen (opened : s.rx.closed = false) (phase : s.rx.phase = .length) (bad : badLen b = true) :
    takeByte b at_ s = (countLength (keeping .hunt [] s), s.rx.kept.tail ++ [(b, at_)]) := by
  simp [takeByte, hunt_open, opened, phase, bad]

theorem takeByte_more (opened : s.rx.closed = false) (phase : s.rx.phase = .collect)
    (part : frameComplete (s.rx.kept ++ [(b, at_)]) = false) :
    takeByte b at_ s = (keeping .collect (s.rx.kept ++ [(b, at_)]) s, []) := by
  simp [takeByte, keeping, opened, phase, part]

theorem takeByte_last (opened : s.rx.closed = false) (phase : s.rx.phase = .collect)
    (whole : frameComplete (s.rx.kept ++ [(b, at_)]) = true) :
    takeByte b at_ s = completeFrame (s.rx.kept ++ [(b, at_)]) s := by
  simp [takeByte, opened, phase, whole]

theorem completeFrame_bad {kept : List (Byte × Time)} (opened : s.rx.closed = false) (bad : checkGood kept = false) :
    completeFrame kept s = (countCheck (keeping .hunt [] s), kept.tail) := by
  simp [completeFrame, bad, hunt_open opened]

theorem completeFrame_good {kept : List (Byte × Time)} {start len type hi lo : Byte} {body : List Byte}
    (opened : s.rx.closed = false) (frame : keptBytes kept = [start, len, type] ++ body ++ [hi, lo])
    (hlen : len.toNat = body.length + 1) (good : checkGood kept = true) :
    completeFrame kept s = (receive type (handlerOf type) body (keeping .hunt [] s), []) := by
  simp [completeFrame, good, FrameCheck.checkedBytes_of_frame frame hlen, hunt_open opened]

theorem frameComplete_iff {kept : List (Byte × Time)} {start len : Byte} {rest : List Byte}
    (h : keptBytes kept = start :: len :: rest) : frameComplete kept = true ↔ len.toNat + 2 ≤ rest.length := by
  have size : kept.length = rest.length + 2 := by simpa [keptBytes] using congrArg List.length h
  rw [frameComplete, FrameCheck.frameNeeds_of_keptBytes h, size, Bool.and_eq_true, decide_eq_true_iff, decide_eq_true_iff]
  omega

theorem keptBytes_append (kept : List (Byte × Time)) (b : Byte) (at_ : Time) :
    keptBytes (kept ++ [(b, at_)]) = keptBytes kept ++ [b] := by
  simp [keptBytes]

/-- Settles O10: one byte in each phase, a complete frame by its check. -/
theorem receiverTakesOneByte : Obligations.ReceiverTakesOneByte := by
  unfold Obligations.ReceiverTakesOneByte
  refine ⟨rfl, fun s b t opened => ⟨fun phase hb => ?_, takeByte_noise opened, fun phase good => ?_,
    fun phase bad => ?_, fun start len t1 t2 rest phase kept short => ?_, fun start len type body hi phase kept hlen => ?_⟩⟩
  · subst hb
    exact takeByte_sof opened phase
  · exact takeByte_len opened phase (Steps.badLen_eq_false.mpr good)
  · exact takeByte_badLen opened phase (by rwa [← Bool.not_eq_false, Steps.badLen_eq_false])
  · refine takeByte_more opened phase (Bool.eq_false_iff.mpr fun whole => ?_)
    have bytes : keptBytes (s.rx.kept ++ [(b, t)]) = start :: len :: (keptBytes rest ++ [b]) := by
      simp [keptBytes, kept]
    have long := (frameComplete_iff bytes).mp whole
    simp [keptBytes] at long
    omega
  · have frame : keptBytes (s.rx.kept ++ [(b, t)]) = [start, len, type] ++ body ++ [hi, b] := by
      rw [keptBytes_append, keptBytes, kept]
      simp
    have whole := (frameComplete_iff (rest := type :: body ++ [hi, b]) frame).mpr (by simp; omega)
    rw [takeByte_last opened phase whole]
    split
    · rename_i agree
      exact completeFrame_good opened frame hlen ((FrameCheck.checkGood_iff frame hlen).mpr agree.symm)
    · rename_i differ
      have bad := Bool.eq_false_iff.mpr fun h => differ ((FrameCheck.checkGood_iff frame hlen).mp h).symm
      have kept_ne : s.rx.kept ≠ [] := fun h => by simp [h] at kept
      rw [completeFrame_bad opened bad, List.tail_append_of_ne_nil kept_ne]
      rfl

/-! ### The pass -/

theorem schedule_rx (s : State) : (schedule s).rx = s.rx := by
  obtain ⟨_, _, _, _, _, _, _, _, _, h⟩ := schedule_sendSide s
  rw [h]

/-- 1 for a receiver in LENGTH with nothing kept, which no step leaves: there a discard gives up no byte. -/
def idleLength (s : State) : Nat := if s.rx.phase = .length ∧ s.rx.kept = [] then 1 else 0

/-- What bounds the work left: the bytes to take and those kept, each discard giving up one of them. -/
def workLeft (bytes : List (Byte × Time)) (s : State) : Nat :=
  (bytes.length + s.rx.kept.length) * (bytes.length + s.rx.kept.length + 1) + bytes.length + idleLength s

theorem idleLength_le (s : State) : idleLength s ≤ 1 := by
  unfold idleLength
  split <;> omega

theorem idleLength_of_phase (h : s.rx.phase ≠ .length) : idleLength s = 0 := by simp [idleLength, h]

theorem idleLength_of_kept (h : s.rx.kept ≠ []) : idleLength s = 0 := by simp [idleLength, h]

/-- A byte given up. -/
theorem workLeft_fewer {more bytes : List (Byte × Time)} {t : State}
    (h : more.length + t.rx.kept.length < bytes.length + s.rx.kept.length) : workLeft more t < workLeft bytes s := by
  have := idleLength_le t
  simp only [workLeft]
  nlinarith

/-- A byte taken and kept. -/
theorem workLeft_kept {more bytes : List (Byte × Time)} {t : State}
    (h : more.length + t.rx.kept.length = bytes.length + s.rx.kept.length) (idle : idleLength t = 0)
    (less : more.length < bytes.length + idleLength s) : workLeft more t < workLeft bytes s := by
  simp only [workLeft, h, idle]
  omega

theorem workLeft_rx {bytes : List (Byte × Time)} {t : State} (h : t.rx = s.rx) : workLeft bytes t = workLeft bytes s := by
  simp only [workLeft, idleLength, h]

/-- Whatever a complete frame does, no more bytes are left than it had, less one. -/
theorem completeFrame_left (kept : List (Byte × Time)) (s : State) :
    (completeFrame kept s).2.length + (completeFrame kept s).1.rx.kept.length ≤ kept.length - 1 := by
  unfold completeFrame
  split
  · split
    · rename_i type body _
      simp [(hunting_receive (handlerOf_mem type) type body s).2]
    · simp
  · simp [countCheck]

theorem takeByte_workLeft (b : Byte) (at_ : Time) (rest : List (Byte × Time)) (s : State) :
    workLeft ((takeByte b at_ s).2 ++ rest) (takeByte b at_ s).1 < workLeft ((b, at_) :: rest) s := by
  cases opened : s.rx.closed with
  | true =>
    have quiet : takeByte b at_ s = (s, []) := by simp [takeByte, opened]
    rw [quiet]
    exact workLeft_fewer (by simp)
  | false =>
    cases phase : s.rx.phase with
    | hunt =>
      by_cases hb : b = sof
      · subst hb
        rw [takeByte_sof opened phase]
        cases kept : s.rx.kept with
        | nil =>
          refine workLeft_kept (by simp [keeping, kept]) (idleLength_of_kept (by simp [keeping])) ?_
          simp
          omega
        | cons x xs => exact workLeft_fewer (by simp [keeping, kept])
      · rw [takeByte_noise opened phase hb]
        exact workLeft_fewer (by simp)
    | length =>
      cases bad : badLen b with
      | false =>
        rw [takeByte_len opened phase bad]
        refine workLeft_kept (by simp [keeping]; omega) (idleLength_of_phase (by simp [keeping])) ?_
        simp
        omega
      | true =>
        rw [takeByte_badLen opened phase bad]
        cases kept : s.rx.kept with
        | nil =>
          have idle : idleLength s = 1 := by simp [idleLength, phase, kept]
          refine workLeft_kept (by simp [keeping, countLength, kept])
            (idleLength_of_phase (by simp [countLength, keeping])) ?_
          simp [idle]
        | cons x xs => exact workLeft_fewer (by simp [keeping, countLength, kept]; omega)
    | collect =>
      cases whole : frameComplete (s.rx.kept ++ [(b, at_)]) with
      | false =>
        rw [takeByte_more opened phase whole]
        refine workLeft_kept (by simp [keeping]; omega) (idleLength_of_phase (by simp [keeping])) ?_
        simp
        omega
      | true =>
        rw [takeByte_last opened phase whole]
        have left := completeFrame_left (s.rx.kept ++ [(b, at_)]) s
        simp only [List.length_append, List.length_singleton, Nat.add_sub_cancel] at left
        exact workLeft_fewer (by simp; omega)

theorem takeBytes_nil (n : Nat) (s : State) : takeBytes (n + 1) [] s
    = if gapDue s then takeBytes n s.rx.kept.tail (countAbandoned (hunt s)) else s := rfl

theorem takeBytes_cons (n : Nat) (b : Byte) (at_ : Time) (rest : List (Byte × Time)) (s : State) :
    takeBytes (n + 1) ((b, at_) :: rest) s
      = takeBytes n ((takeByte b at_ s).2 ++ rest) (schedule (takeByte b at_ s).1) := rfl

/-- With work enough the bytes are all taken. -/
theorem pass_takeBytes (n : Nat) (bytes : List (Byte × Time)) (s : State) (enough : workLeft bytes s < n) :
    Pass bytes s (takeBytes n bytes s) := by
  induction n generalizing bytes s with
  | zero => omega
  | succ n ih =>
    cases bytes with
    | nil =>
      rw [takeBytes_nil]
      split
      · rename_i gap
        obtain ⟨-, -, x, last, -⟩ := (gapDue_iff s).mp gap
        have kept : s.rx.kept ≠ [] := fun h => by simp [h] at last
        have fewer : workLeft s.rx.kept.tail (countAbandoned (hunt s)) < workLeft [] s :=
          workLeft_fewer (by simpa using List.length_pos_iff.mpr kept)
        exact .abandoned s _ gap (ih _ _ (by omega))
      · rename_i quiet
        exact .finished s (by simpa using quiet)
    | cons x rest =>
      obtain ⟨b, at_⟩ := x
      have less := takeByte_workLeft b at_ rest s
      rw [← workLeft_rx (schedule_rx (takeByte b at_ s).1)] at less
      rw [takeBytes_cons]
      exact .byte b at_ rest s _ (ih _ _ (by omega))

theorem pass_receiveByte (b : Byte) (s : State) : Pass [(b, s.clock)] s (receiveByte b s) := by
  refine pass_takeBytes _ _ _ ?_
  have := idleLength_le s
  simp only [workLeft, workFor, List.length_singleton]
  nlinarith

theorem pass_abandonFrame (s : State) : Pass [] s (abandonFrame s) := by
  refine pass_takeBytes _ _ _ ?_
  have := idleLength_le s
  simp only [workLeft, workFor, List.length_nil]
  nlinarith

theorem pass_after_byte {t u : State} {again : List (Byte × Time)} (taken : takeByte b at_ s = (t, again))
    (h : Pass [(b, at_)] s u) : Pass again (schedule t) u := by
  cases h with
  | byte _ _ _ _ _ rest => simpa [taken] using rest

theorem pass_after_gap {u : State} (gap : gapDue s = true) (h : Pass [] s u) :
    Pass s.rx.kept.tail (countAbandoned (hunt s)) u := by
  cases h with
  | finished _ quiet => simp [gap] at quiet
  | abandoned _ _ _ rest => exact rest

/-- Settles O9: each event of the receiver is a pass, seen after its first discard. -/
theorem receiverPassCompletes : Obligations.ReceiverPassCompletes := by
  unfold Obligations.ReceiverPassCompletes
  intro s b awake opened
  refine ⟨⟨receiveByte b s, ?_, pass_receiveByte b s⟩, fun phase bad => ⟨receiveByte b s, ?_, ?_⟩,
    fun phase whole bad => ⟨receiveByte b s, ?_, ?_⟩, fun x phase last gap => ⟨abandonFrame s, ?_, ?_⟩⟩
  · change execByteTaken b s = _
    simp [execByteTaken, State.deaf, awake, opened, finish]
  · exact Steps.whenDue_due _ awake ((Steps.isLengthError_iff b s).mpr ⟨opened, phase, bad⟩)
  · exact pass_after_byte (takeByte_badLen opened phase bad) (pass_receiveByte b s)
  · exact Steps.whenDue_due _ awake ((Steps.isCheckError_iff b s).mpr ⟨opened, phase, whole, bad⟩)
  · refine pass_after_byte ?_ (pass_receiveByte b s)
    rw [takeByte_last opened phase whole, completeFrame_bad opened bad]
    rfl
  · exact Steps.whenDue_due _ awake ((gapDue_iff s).mpr ⟨opened, phase, x, last, gap⟩)
  · have due := (gapDue_iff s).mpr ⟨opened, phase, x, last, gap⟩
    have rest := pass_after_gap due (pass_abandonFrame s)
    rw [hunt_open opened] at rest
    exact rest

/-! ### A whole frame -/

/-- The scheduler has nothing to do: the transmitter is busy or nothing waits. -/
def Settled (s : State) : Prop := s.tx.isSome = true ∨ s.waiting = false

theorem schedule_keeping (h : Settled s) (phase : RxPhase) (kept : List (Byte × Time)) :
    schedule (keeping phase kept s) = keeping phase kept s := by
  rcases h with busy | quiet
  · exact schedule_busy busy
  · exact schedule_quiet quiet

theorem exec_byteTaken (awake : s.inReset = false) (opened : s.rx.closed = false) (b : Byte) :
    exec (.byteTaken b) s = .next (schedule (receiveByte b s)) := by
  change execByteTaken b s = _
  simp [execByteTaken, State.deaf, awake, opened, finish]

theorem workFor_add (n : Nat) : ∃ m, workFor n = m + 2 :=
  ⟨(n + 2) * (n + 2) - 2, by unfold workFor; nlinarith [Nat.sub_add_cancel (show 2 ≤ (n + 2) * (n + 2) by nlinarith)]⟩

/-- A byte after which no gap runs ends the pass. -/
theorem receiveByte_of_taken {t : State} (taken : takeByte b s.clock s = (t, [])) (quiet : gapDue (schedule t) = false) :
    receiveByte b s = schedule t := by
  obtain ⟨m, hm⟩ := workFor_add (s.rx.kept.length + 1)
  simp [receiveByte, hm, takeBytes, taken, quiet]

theorem gapDue_keeping (phase : RxPhase) (kept : List (Byte × Time)) (b : Byte) (s : State) :
    gapDue (keeping phase (kept ++ [(b, s.clock)]) s) = false := by
  simp [gapDue, keeping, interval, Config.gapUnits]

/-- A byte that is kept leaves a settled module as it was but for the receiver. -/
theorem byteTaken_kept {phase : RxPhase} {kept : List (Byte × Time)} (settled : Settled s) (awake : s.inReset = false)
    (opened : s.rx.closed = false)
    (taken : takeByte b s.clock s = (keeping phase (kept ++ [(b, s.clock)]) s, [])) :
    exec (.byteTaken b) s = .next (keeping phase (kept ++ [(b, s.clock)]) s) := by
  have same := schedule_keeping settled phase (kept ++ [(b, s.clock)])
  rw [exec_byteTaken awake opened, receiveByte_of_taken taken (by rw [same]; exact gapDue_keeping _ _ _ _), same, same]

theorem takeAll_next {t : State} (h : exec (.byteTaken b) s = .next t) (more : List Byte) :
    takeAll (b :: more) s = takeAll more t := by
  simp [takeAll, h]

/-- Bytes as they are kept when all arrive now. -/
def arrived (bytes : List Byte) (s : State) : List (Byte × Time) := bytes.map fun b => (b, s.clock)

/-- The state in which a frame's first bytes have been collected. -/
def collecting (bytes : List Byte) (s : State) : State := keeping .collect (arrived bytes s) s

/-- Bytes that complete no frame are collected. -/
theorem takeAll_collect (settled : Settled s) (awake : s.inReset = false) {start len : Byte} (more : List Byte) :
    ∀ (bytes kept : List Byte), kept.length + bytes.length < len.toNat + 2 →
      takeAll (bytes ++ more) (collecting (start :: len :: kept) s)
        = takeAll more (collecting (start :: len :: kept ++ bytes) s)
  | [], kept, _ => by simp
  | b :: bytes, kept, short => by
    have keptNow : keptBytes (arrived (start :: len :: kept) s ++ [(b, s.clock)]) = start :: len :: (kept ++ [b]) := by
      simp [keptBytes, arrived, Function.comp_def]
    have part : frameComplete (arrived (start :: len :: kept) s ++ [(b, s.clock)]) = false := by
      refine Bool.eq_false_iff.mpr fun whole => ?_
      have long := (frameComplete_iff keptNow).mp whole
      simp only [List.length_append, List.length_cons, List.length_nil] at long short
      omega
    have step : exec (.byteTaken b) (collecting (start :: len :: kept) s)
        = .next (collecting (start :: len :: (kept ++ [b])) s) := by
      have kept_ := byteTaken_kept (s := collecting (start :: len :: kept) s) settled awake rfl
        (takeByte_more rfl rfl part)
      refine kept_.trans ?_
      simp [collecting, arrived, keeping]
    have rest := takeAll_collect settled awake more bytes (kept ++ [b]) (start := start) (len := len)
      (by simp only [List.length_append, List.length_cons, List.length_nil] at short ⊢; omega)
    rw [List.cons_append, takeAll_next step, rest]
    simp

/-- An answer waiting is on the line after the scheduler's choice, unless a frame was there already. -/
theorem schedule_schedule_of_answer (h : s.answers ≠ []) : schedule (schedule s) = schedule s := by
  refine schedule_busy ?_
  cases ht : s.tx with
  | some x => rw [schedule_busy (by simp [ht]), ht]; rfl
  | none =>
    obtain ⟨a, rest, ha⟩ := List.exists_cons_of_ne_nil h
    simp [schedule, ht, Queues.choose_answer ha, transmit]

theorem receive_answers_ne_nil {m : Handler} (type : Byte) (body : List Byte)
    (room : s.answers.length < 4) : (receive type m body (hunt s)).answers ≠ [] := by
  have hr : ¬ Config.answerPlaces ≤ (received s).answers.length := by
    simpa [Config.answerPlaces] using room
  change (if Config.answerPlaces ≤ (received s).answers.length then overrun (received s)
    else execute type m body (received s)).answers ≠ []
  rw [if_neg hr]
  simp [execute]

/-- The last byte of a collected frame whose check agrees makes it a message. -/
theorem byteTaken_last {len type hi lo : Byte} {body : List Byte} (awake : s.inReset = false)
    (opened : s.rx.closed = false) (hlen : len.toNat = body.length + 1) (check : hi ++ lo = crc ([len, type] ++ body)) :
    exec (.byteTaken lo) (collecting ([0xA5, len] ++ (type :: body ++ [hi])) s)
      = .next (schedule (schedule (receive type (handlerOf type) body (hunt s)))) := by
  have frame : keptBytes (arrived ([0xA5, len] ++ (type :: body ++ [hi])) s ++ [(lo, s.clock)])
      = [0xA5, len, type] ++ body ++ [hi, lo] := by
    simp [keptBytes, arrived, Function.comp_def]
  have whole := (frameComplete_iff (rest := type :: body ++ [hi, lo]) frame).mpr (by simp; omega)
  have good := (FrameCheck.checkGood_iff frame hlen).mpr check
  have taken : takeByte lo s.clock (collecting ([0xA5, len] ++ (type :: body ++ [hi])) s)
      = (receive type (handlerOf type) body (hunt s), []) := by
    rw [hunt_open opened, takeByte_last rfl rfl whole]
    exact completeFrame_good (s := collecting ([0xA5, len] ++ (type :: body ++ [hi])) s) rfl frame hlen good
  have quiet := gapDue_hunting (hunting_schedule (hunting_receive (handlerOf_mem type) type body s))
  rw [exec_byteTaken (s := collecting _ s) awake rfl, receiveByte_of_taken (s := collecting _ s) taken quiet]

/-- Settles O8: the bytes before the last are kept one by one; the last makes the frame the message. -/
theorem frameBytesExecuteTheMessage : Obligations.FrameBytesExecuteTheMessage := by
  unfold Obligations.FrameBytesExecuteTheMessage
  intro s m body ready phase settled hm short
  obtain ⟨hi, lo, bytes, check⟩ := FrameCheck.frame_bytes m.type body
  obtain ⟨awake, opened, room⟩ := ready
  have hlen : (u8 (body.length + 1)).toNat = body.length + 1 := FrameCheck.u8_toNat (by omega)
  have good : badLen (u8 (body.length + 1)) = false := Steps.badLen_eq_false.mpr (by omega)
  have first : exec (.byteTaken 0xA5) s = .next (keeping .length (arrived [0xA5] s) s) :=
    byteTaken_kept (kept := []) settled awake opened (takeByte_sof opened phase)
  have second : exec (.byteTaken (u8 (body.length + 1))) (keeping .length (arrived [0xA5] s) s)
      = .next (collecting [0xA5, u8 (body.length + 1)] s) :=
    byteTaken_kept (kept := arrived [0xA5] s) (s := keeping .length (arrived [0xA5] s) s) settled awake rfl
      (takeByte_len rfl rfl good)
  have split : Frame.bytes { type := m.type, body := body }
      = 0xA5 :: u8 (body.length + 1) :: ((m.type :: body ++ [hi]) ++ [lo]) := by simp [bytes]
  rw [split, takeAll_next first, takeAll_next second,
    takeAll_collect settled awake [lo] (m.type :: body ++ [hi]) [] (by simp; omega)]
  rw [takeAll_next (byteTaken_last awake opened hlen check), GoodFrames.exec_of_messageTable hm]
  have hears : s.deaf = false := by simp [State.deaf, awake, opened]
  simp [controlMessage, hears, finish, takeAll,
    schedule_schedule_of_answer (receive_answers_ne_nil (m := handlerOf m.type) m.type body room)]

end Sys2Proof.Proofs.Receiving
end

section
/-! The replies of the control messages: the part state, the body's length, and the messages of the snapshot, the clock,
the status and the reset. -/

namespace Sys2Proof.Proofs.Replies

open Sys2Proof.Machine Sys2Proof.Safety Sys2Proof.Laws

variable {s : State}

/-! ### From what a message does to the step -/

section Executed

variable {c : Instr} {type : Byte} {m : Handler} {body : List Byte} {code : AnswerCode}

theorem answersWith_of {data : List (List Byte)} {t : State} (ready : Ready s)
    (hc : exec c s = controlMessage type m body s) (hm : m body (received s) = (t, { code := code, data := data })) :
    AnswersWith c type code data t s := by
  unfold AnswersWith
  rw [hc, controlMessage_ready ready, hm]

theorem refuses_of (ready : Ready s) (hc : exec c s = controlMessage type m body s)
    (hm : m body (received s) = refuse code (received s)) : Refuses c type code s :=
  answersWith_of ready hc hm

end Executed

theorem inConfiguring_pass (f : Executed) (h : s.partState = .configuring) : inConfiguring s f = f := by
  simp [inConfiguring, h]

theorem inRunning_pass (f : Executed) (h : s.partState = .running) : inRunning s f = f := by
  simp [inRunning, h]

theorem afterLoading_pass (f : Executed) (h : s.partState ≠ .loading) : afterLoading s f = f := by
  unfold afterLoading
  split
  · contradiction
  · rfl
  · rfl

theorem received_running (h : s.partState = .running) : (received s).partState = .running := by simp [h]

theorem received_configuring (h : s.partState = .configuring) : (received s).partState = .configuring := by simp [h]

theorem received_loaded (h : s.partState ≠ .loading) : (received s).partState ≠ .loading := by simpa using h

/-! ### Numbers -/

@[simp] theorem findObject_received (b : Byte) : (received s).findObject b = s.findObject b := by
  simp [State.findObject]

@[simp] theorem findOutput_received (b : Byte) : (received s).findOutput b = s.findOutput b := by
  simp [State.findOutput]

theorem findObject_some {b : Byte} {n : ObjId} {o : Obj} (hn : n.val = b.toNat) (ho : s.object n = some o) :
    s.findObject b = some (n, o) := by
  simp [State.findObject, objectNumber_of hn, ho]

theorem findOutput_some {b : Byte} {i : OutId} {x : Output} (hi : i.val = b.toNat) (hx : s.output i = some x) :
    s.findOutput b = some (i, x) := by
  simp [State.findOutput, outputNumber_of hi, hx]

theorem findObject_none {b : Byte} (h : ∀ n : ObjId, n.val = b.toNat → s.object n = none) : s.findObject b = none := by
  unfold State.findObject objectNumber
  split
  · rename_i n hn
    split at hn
    · cases hn
      simp [h ⟨b.toNat, ‹_›⟩ rfl]
    · cases hn
  · rfl

theorem findOutput_none {b : Byte} (h : ∀ i : OutId, i.val = b.toNat → s.output i = none) : s.findOutput b = none := by
  unfold State.findOutput outputNumber
  split
  · rename_i i hi
    split at hi
    · cases hi
      simp [h ⟨b.toNat, ‹_›⟩ rfl]
    · cases hi
  · rfl

/-! ### Fields -/

theorem word_toNat (hi lo : Byte) : (word hi lo).toNat = num2 hi lo := by
  unfold word num2
  rw [BitVec.toNat_append, Nat.shiftLeft_eq, ← Nat.shiftLeft_eq, ← Nat.shiftLeft_add_eq_or_of_lt lo.isLt,
    Nat.shiftLeft_eq]
  omega

/-- A field is moved exactly where it lies outside its range (section 0.6). -/
theorem clampField_moved {lo hi x : Nat} (range : lo ≤ hi) : (clampField lo hi x).moved = true ↔ Outside lo hi x := by
  unfold clampField clamp
  simp only [decide_eq_true_iff]
  omega

theorem acceptedCode_moved {moved : Bool} {P : Prop} (h : moved = true ↔ P) (hp : P) :
    acceptedCode moved = .acceptedClamped := by rw [acceptedCode, if_pos (h.mpr hp)]

theorem acceptedCode_kept {moved : Bool} {P : Prop} (h : moved = true ↔ P) (hp : ¬ P) :
    acceptedCode moved = .accepted := by rw [acceptedCode, if_neg (mt h.mp hp)]

/-! ### The part state, then the body's length -/

/-- The handler refuses by the part state first, and then a body of another length (section 10.4). -/
def Gated (m : MessageRow) (h : Handler) : Prop := ∀ body s,
  (m.allowed s.partState = false → h body s = refuse (if s.partState = .loading then .busy else .wrongState) s)
  ∧ (m.allowed s.partState = true → m.free s → body.length ≠ m.length → h body s = refuse .badForm s)

section Gates

variable {type : Byte} {make : List Byte → Instr} {length : Nat} {m : MessageRow} {g : Handler}

theorem gated_configuring (hlen : ∀ body s, body.length ≠ length → g body s = refuse .badForm s) :
    Gated (configuringRow type make length) fun body s => inConfiguring s (g body s) := by
  intro body s
  cases hp : s.partState <;> simp +contextual [MessageRow.allowed, configuringRow, inConfiguring, hp, hlen]

theorem gated_running
    (hlen : ∀ body s, (runningRow type make length).free s → body.length ≠ length → g body s = refuse .badForm s) :
    Gated (runningRow type make length) fun body s => inRunning s (g body s) := by
  intro body s
  have short := hlen body s
  cases hp : s.partState
  case running => exact ⟨nofun, fun _ free hb => (inRunning_pass _ hp).trans (short free hb)⟩
  all_goals exact ⟨fun _ => by simp [inRunning, hp], nofun⟩

theorem gated_loaded
    (hlen : ∀ body s, (loadedRow type make length).free s → body.length ≠ length → g body s = refuse .badForm s) :
    Gated (loadedRow type make length) fun body s => afterLoading s (g body s) := by
  intro body s
  have short := hlen body s
  cases hp : s.partState
  case loading => exact ⟨fun _ => by simp [afterLoading, hp], nofun⟩
  all_goals exact ⟨nofun, fun _ free hb => (afterLoading_pass _ (by simp [hp])).trans (short free hb)⟩

theorem gated_every (hlen : ∀ body s, body.length ≠ length → g body s = refuse .badForm s) :
    Gated (everyRow type make length) g := by
  intro body s
  cases hp : s.partState <;> exact ⟨nofun, fun _ _ hb => hlen body s hb⟩

end Gates

section Lengths

variable {body : List Byte}

theorem parseDefineObject_none (h : body.length ≠ 16) : parseDefineObject body = none := by
  unfold parseDefineObject
  split
  · simp at h
  · rfl

theorem parseDefineOutput_none (h : body.length ≠ 12) : parseDefineOutput body = none := by
  unfold parseDefineOutput
  split
  · simp at h
  · rfl

theorem parseSetGroup_none (h : body.length ≠ 5) : parseSetGroup body = none := by
  unfold parseSetGroup
  split
  · simp at h
  · rfl

theorem parseSetPartTiming_none (h : body.length ≠ 8) : parseSetPartTiming body = none := by
  unfold parseSetPartTiming
  split
  · simp at h
  · rfl

theorem parseSetSurvey_none (h : body.length ≠ 7) : parseSetSurvey body = none := by
  unfold parseSetSurvey
  split
  · simp at h
  · rfl

theorem parseAdjustObject_none (h : body.length ≠ 10) : parseAdjustObject body = none := by
  unfold parseAdjustObject
  split
  · simp at h
  · rfl

theorem parseAdjustOutput_none (h : body.length ≠ 6) : parseAdjustOutput body = none := by
  unfold parseAdjustOutput
  split
  · simp at h
  · rfl

theorem parseGroupPulse_none (h : body.length ≠ 7) : parseGroupPulse body = none := by
  unfold parseGroupPulse
  split
  · simp at h
  · rfl

theorem ne_nil_of_length (h : body.length ≠ 0) : body ≠ [] := by simpa using h

/-- What a message makes of a body of one byte it refuses for any other body. -/
theorem one_byte {f : Byte → Executed} {g : Executed} : body.length ≠ 1 →
    (match body with
      | [b] => f b
      | _ => g) = g := by
  intro h
  split
  · simp at h
  · rfl

end Lengths

theorem gated_messageTable : ∀ m ∈ messageTable, Gated m (handlerOf m.type) := by
  simp only [messageTable, List.cons_append, List.nil_append, List.forall_mem_cons]
  exact ⟨gated_configuring fun body s h => by rw [parseDefineObject_none h],
    gated_configuring fun body s h => by rw [parseDefineOutput_none h],
    gated_configuring fun body s h => by rw [parseSetBands, if_neg h],
    gated_loaded fun body s _ h => by rw [parseSetGroup_none h],
    gated_loaded fun body s _ h => by rw [parseSetPartTiming_none h],
    gated_loaded fun body s _ h => by split <;> simp_all,
    gated_loaded fun body s _ h => by rw [parseSetSurvey_none h],
    gated_running fun body s _ h => by rw [parseAdjustObject_none h],
    gated_running fun body s _ h => by rw [parseAdjustOutput_none h],
    gated_configuring fun body s h => if_pos (ne_nil_of_length h),
    gated_running fun body s _ h => one_byte h, gated_running fun body s _ h => one_byte h,
    gated_running fun body s _ h => one_byte h, gated_running fun body s _ h => one_byte h,
    gated_running fun body s _ h => one_byte h,
    gated_running fun body s _ h => by rw [parseGroupPulse_none h],
    gated_running fun body s _ h => if_pos (ne_nil_of_length h),
    gated_running fun body s free h => by rw [free.1 rfl]; exact if_pos (ne_nil_of_length h),
    gated_loaded fun body s _ h => one_byte h, gated_loaded fun body s _ h => one_byte h,
    gated_loaded fun body s _ h => by split <;> simp_all,
    gated_loaded fun body s _ h => by split <;> simp_all,
    gated_every fun body s h => if_pos (ne_nil_of_length h), gated_every fun body s h => if_pos (ne_nil_of_length h),
    gated_loaded fun body s free h => by rw [free.2 rfl]; exact one_byte h,
    gated_loaded fun body s _ h => if_pos (ne_nil_of_length h), List.forall_mem_nil _⟩

/-- Settles O6: each row's handler is gated as the table says. -/
theorem typeThenPartStateThenLength : Obligations.TypeThenPartStateThenLength := by
  unfold Obligations.TypeThenPartStateThenLength
  refine ⟨fun s t body ready ht => refuses_of ready (GoodFrames.exec_unknownType ht body s) rfl,
    fun s m body ready hm => ?_⟩
  have gated := gated_messageTable m hm body (received s)
  rw [received_partState] at gated
  obtain ⟨early, short⟩ := gated
  refine ⟨fun h => refuses_of ready (GoodFrames.exec_of_messageTable hm body s) (early h), fun h free hb => ?_⟩
  refine refuses_of ready (GoodFrames.exec_of_messageTable hm body s) (short h ?_ hb)
  simpa [MessageRow.free] using free

/-! ### Snapshot, Reset, Read Clock and Read Status -/

/-- Settles O50: the three messages by their own tests. -/
theorem snapshotAndReset : Obligations.SnapshotAndReset := by
  unfold Obligations.SnapshotAndReset
  intro s
  refine ⟨fun body ⟨ready, running⟩ busy => ?_, fun ⟨ready, running⟩ free => ?_, fun ⟨ready, loaded⟩ => ?_⟩
  · refine refuses_of ready (m := msgSnapshot) rfl ?_
    rw [msgSnapshot, inRunning_pass _ (received_running running), received_snapshot]
    exact if_pos (Option.isSome_iff_ne_none.mpr busy)
  · refine answersWith_of ready (m := msgSnapshot) rfl ?_
    rw [msgSnapshot, inRunning_pass _ (received_running running), received_snapshot, free, received_reporting]
    simp [done]
  · refine answersWith_of ready (m := msgReset) rfl ?_
    rw [msgReset, afterLoading_pass _ (received_loaded loaded)]
    rfl

theorem be32_append (t : Time) :
    t.extractLsb' 24 8 ++ t.extractLsb' 16 8 ++ t.extractLsb' 8 8 ++ t.extractLsb' 0 8 = t := by
  refine BitVec.eq_of_getLsbD_eq fun i hi => ?_
  simp only [BitVec.getLsbD_append, BitVec.getLsbD_extractLsb']
  grind

theorem groupBit_getLsbD (g k : GroupId) : (groupBit g).getLsbD k.val = decide (g = k) := by
  revert g k
  decide

/-- The bits of a set built up from a list of groups. -/
theorem foldl_groupBit (p : GroupId → Bool) (k : GroupId) : ∀ (l : List GroupId) (a : BitVec 16),
    (l.foldl (fun acc g => if p g then acc ||| groupBit g else acc) a).getLsbD k.val
      = (a.getLsbD k.val || l.any fun g => p g && decide (g = k))
  | [], a => by simp
  | g :: l, a => by
    rw [List.foldl_cons, foldl_groupBit p k l, List.any_cons]
    cases p g
    · simp
    · simp only [if_true, BitVec.getLsbD_or, groupBit_getLsbD, Bool.true_and, Bool.or_assoc]

theorem refFaultSet_getLsbD (s : State) (g : GroupId) : s.refFaultSet.getLsbD g.val = (s.group g).refFault := by
  rw [State.refFaultSet, foldl_groupBit fun h => (s.group h).refFault]
  refine Bool.eq_iff_iff.mpr ?_
  simp

/-- A set of groups as two bytes of a body hold it. -/
theorem be16_set (w : Word16) : ∃ hi lo : Byte, be16 w.toNat = [hi, lo] ∧ hi ++ lo = w :=
  ⟨_, _, FrameCheck.be16_toNat w, FrameCheck.bytes_eq_be16_iff.mp (FrameCheck.be16_toNat w).symm⟩

/-- Settles O49: the data of the two answers, field by field. -/
theorem readClockAndStatus : Obligations.ReadClockAndStatus := by
  unfold Obligations.ReadClockAndStatus
  intro s ready
  refine ⟨⟨_, _, _, _, be32_append s.clock, ?_⟩, statusData (received s), ?_, ?_⟩
  · refine answersWith_of ready (m := msgReadClock) rfl ?_
    simp [msgReadClock, answered, be32]
  · exact answersWith_of ready (m := msgReadStatus) rfl rfl
  · obtain ⟨hi, lo, bytes, value⟩ := be16_set (received s).refFaultSet
    simp only [statusData, bytes]
    simp only [be16, be32, timeBytes, u8, flagByte, received_window]
    simp
    refine ⟨fun w h => by simp [h], fun h => by simp [h], fun g => ?_, by simp [State.faultedOutputs]⟩
    have bit := refFaultSet_getLsbD (received s) g
    rw [← value, received_group] at bit
    simpa using bit

end Sys2Proof.Proofs.Replies
end

section
/-! The outcomes and proofs of the outputs: how a proof begins and ends, how an output enters a state, what each of these
leaves at every other output, and the proofs a committed change ends. -/

namespace Sys2Proof.Proofs.Outcomes

open Sys2Proof.Machine Sys2Proof.Safety Sys2Proof.Laws

variable {s t u : State} {i j : OutId} {x : Output}

/-! ### What an operation leaves elsewhere -/

/-- Whether the queues hold an entry of the source stands. -/
def HoldsKept (src : Source) (s t : State) : Prop :=
  holds t.urgent src = holds s.urgent src ∧ holds t.routine src = holds s.routine src

theorem HoldsKept.refl (src : Source) (s : State) : HoldsKept src s s := ⟨rfl, rfl⟩

theorem HoldsKept.trans {src : Source} (h : HoldsKept src s t) (k : HoldsKept src t u) : HoldsKept src s u :=
  ⟨k.1.trans h.1, k.2.trans h.2⟩

/-- The record and the proof of output i stand, and whether its entry is queued. -/
structure Untouched (i : OutId) (s t : State) : Prop where
  output : t.output i = s.output i
  proof : t.proof i = s.proof i
  held : HoldsKept (.output i) s t

theorem Untouched.refl (i : OutId) (s : State) : Untouched i s s := ⟨rfl, rfl, .refl _ s⟩

theorem Untouched.trans (h : Untouched i s t) (k : Untouched i t u) : Untouched i s u :=
  ⟨k.output.trans h.output, k.proof.trans h.proof, h.held.trans k.held⟩

theorem Untouched.foldl {α : Type} {f : State → α → State} :
    ∀ {l : List α} {s : State}, (∀ a ∈ l, ∀ t, Untouched i t (f t a)) → Untouched i s (l.foldl f s)
  | [], s, _ => .refl i s
  | a :: l, s, h => by
    rw [List.foldl_cons]
    exact (h a List.mem_cons_self s).trans (.foldl fun b hb => h b (List.mem_cons_of_mem a hb))

theorem untouched_setOutput (h : i ≠ j) (x : Output) (s : State) : Untouched i s (s.setOutput j x) :=
  ⟨by rw [output_setOutput, if_neg h], rfl, rfl, rfl⟩

theorem untouched_setProof (h : i ≠ j) (p : Proof) (s : State) : Untouched i s (s.setProof j p) :=
  ⟨rfl, by rw [proof_setProof, if_neg h], rfl, rfl⟩

theorem output_request (src : Source) (c : ReportClass) (s : State) (i : OutId) :
    (request src c s).output i = s.output i := by
  obtain ⟨u, r, h⟩ := request_queuesOnly src c s
  rw [h]
  rfl

theorem proof_request (src : Source) (c : ReportClass) (s : State) (i : OutId) :
    (request src c s).proof i = s.proof i := by
  obtain ⟨u, r, h⟩ := request_queuesOnly src c s
  rw [h]
  rfl

theorem object_request (src : Source) (c : ReportClass) (s : State) (n : ObjId) :
    (request src c s).object n = s.object n := by
  obtain ⟨u, r, h⟩ := request_queuesOnly src c s
  rw [h]
  rfl

theorem untouched_request {src : Source} (h : src ≠ .output i) (c : ReportClass) (s : State) :
    Untouched i s (request src c s) :=
  ⟨output_request src c s i, proof_request src c s i, request_other h.symm c s⟩

theorem output_ne (h : i ≠ j) : Source.output j ≠ .output i := fun he => h (Source.output.inj he).symm

/-! ### Posting an outcome -/

theorem postOutcome_eq (found : s.output i = some x) (outcome : ProofOutcome) (p : Proof) (time : Nat) :
    postOutcome i outcome p time s
      = request (.output i) outcome.reportClass (s.setOutput i { x with result := x.result.post outcome p time }) := by
  simp [postOutcome, found]

theorem postOutcome_undefined (none_ : s.output i = none) (outcome : ProofOutcome) (p : Proof) (time : Nat) :
    postOutcome i outcome p time s = s := by
  simp [postOutcome, none_]

theorem untouched_postOutcome (h : i ≠ j) (outcome : ProofOutcome) (p : Proof) (time : Nat) (s : State) :
    Untouched i s (postOutcome j outcome p time s) := by
  cases hx : s.output j with
  | none => rw [postOutcome_undefined hx]; exact .refl i s
  | some x =>
    rw [postOutcome_eq hx]
    exact (untouched_setOutput h _ s).trans (untouched_request (output_ne h) _ _)

theorem holds_postOutcome {src : Source} (h : src ≠ .output i) (outcome : ProofOutcome) (p : Proof) (time : Nat)
    (s : State) : HoldsKept src s (postOutcome i outcome p time s) := by
  cases hx : s.output i with
  | none => rw [postOutcome_undefined hx]; exact .refl src s
  | some x =>
    rw [postOutcome_eq hx]
    exact request_other h _ (s.setOutput i _)

theorem proof_postOutcome (outcome : ProofOutcome) (p : Proof) (time : Nat) (s : State) (j : OutId) :
    (postOutcome i outcome p time s).proof j = s.proof j := by
  cases hx : s.output i with
  | none => rw [postOutcome_undefined hx]
  | some x => rw [postOutcome_eq hx, proof_request]; rfl

theorem output_postOutcome (found : s.output i = some x) (outcome : ProofOutcome) (p : Proof) (time : Nat) :
    (postOutcome i outcome p time s).output i = some { x with result := x.result.post outcome p time } := by
  rw [postOutcome_eq found, output_request, output_setOutput_same]

/-! ### The end of a proof -/

theorem endProof_idle (h : (s.proof i).phase = .none) (outcome : ProofOutcome) (time : Nat) :
    endProof i outcome time s = s := by
  simp [endProof, Proof.inFlight, h]

theorem endProof_flying (h : (s.proof i).phase ≠ .none) (outcome : ProofOutcome) (time : Nat) :
    endProof i outcome time s
      = postOutcome i outcome (s.proof i) time (s.setProof i { s.proof i with phase := .none, deadline := none }) := by
  simp [endProof, Proof.inFlight, h, Proof.ended]

theorem reportClass_eq (outcome : ProofOutcome) : outcome.reportClass
    = if outcome = .unproven ∨ outcome = .abandoned ∨ outcome = .driverFault then .urgent else .routine := by
  cases outcome <;> rfl

theorem endProof_eq (h : (s.proof i).phase ≠ .none) (found : s.output i = some x) (outcome : ProofOutcome) (time : Nat) :
    endProof i outcome time s = request (.output i) outcome.reportClass
      ((s.setProof i { s.proof i with phase := .none, deadline := none }).setOutput i
        { x with result := x.result.post outcome (s.proof i) time }) := by
  rw [endProof_flying h]
  exact postOutcome_eq (s := s.setProof i _) found outcome _ time

theorem untouched_endProof (h : i ≠ j) (outcome : ProofOutcome) (time : Nat) (s : State) :
    Untouched i s (endProof j outcome time s) := by
  by_cases hp : (s.proof j).phase = .none
  · rw [endProof_idle hp]
    exact .refl i s
  · rw [endProof_flying hp]
    exact (untouched_setProof h _ s).trans (untouched_postOutcome h _ _ _ _)

theorem holds_endProof {src : Source} (h : src ≠ .output i) (outcome : ProofOutcome) (time : Nat) (s : State) :
    HoldsKept src s (endProof i outcome time s) := by
  by_cases hp : (s.proof i).phase = .none
  · rw [endProof_idle hp]
    exact .refl src s
  · rw [endProof_flying hp]
    exact holds_postOutcome h _ _ _ (s.setProof i _)

theorem proof_endProof (outcome : ProofOutcome) (time : Nat) (h : (s.proof i).phase ≠ .none) :
    (endProof i outcome time s).proof i = { s.proof i with phase := .none, deadline := none } := by
  rw [endProof_flying h, proof_postOutcome, proof_setProof_same]

theorem phase_endProof (outcome : ProofOutcome) (time : Nat) (s : State) :
    ((endProof i outcome time s).proof i).phase = .none := by
  by_cases hp : (s.proof i).phase = .none
  · rw [endProof_idle hp, hp]
  · rw [proof_endProof outcome time hp]

theorem output_endProof (h : (s.proof i).phase ≠ .none) (found : s.output i = some x) (outcome : ProofOutcome)
    (time : Nat) : (endProof i outcome time s).output i
      = some { x with result := x.result.post outcome (s.proof i) time } := by
  rw [endProof_eq h found, output_request, output_setOutput_same]

/-- The definition, staged values, state and mismatch of an output stand where its proof ends. -/
theorem output_endProof_result (found : s.output i = some x) (outcome : ProofOutcome) (time : Nat) :
    ∃ r, (endProof i outcome time s).output i = some { x with result := r } := by
  by_cases hp : (s.proof i).phase = .none
  · rw [endProof_idle hp]
    exact ⟨x.result, found⟩
  · exact ⟨_, output_endProof hp found outcome time⟩

theorem requested_endProof (h : (s.proof i).phase ≠ .none) (found : s.output i = some x) (outcome : ProofOutcome)
    (time : Nat) :
    (holds (endProof i outcome time s).urgent (.output i) || holds (endProof i outcome time s).routine (.output i)) = true
      ∧ (outcome.reportClass = .urgent → holds (endProof i outcome time s).urgent (.output i) = true) := by
  rw [endProof_eq h found]
  exact request_self _ _ _

/-! ### The start of a proof -/

/-- The record of a new proof before its course is decided (R131). -/
def blankProof (s : State) (x : Output) (kind : CmdKind) : Proof :=
  { phase := .none, kind := some kind, start := s.clock, object := x.cfg.proving, expected := x.cfg.expected,
    deadline := none }

section Start

variable (kind : CmdKind) (found : s.output i = some x) (idle : (s.proof i).phase = .none)
include found idle

theorem startProof_latch (h : NothingToWatch s x.cfg.proving) (latch : kind = .latch) : startProof i kind s
    = postOutcome i .noProof (blankProof s x kind) 0 (s.setProof i (blankProof s x kind)) := by
  have course := (proofCourse_noObject_iff s x.cfg.proving x.cfg.expected).mpr h
  subst latch
  simp [startProof, endProof_idle idle, found, newProof, course, outcomeAtStart, blankProof]

theorem startProof_awaiting (h : NothingToWatch s x.cfg.proving) (pulse : kind ≠ .latch) : startProof i kind s
    = s.setProof i { blankProof s x kind with phase := .awaitingPulseEnd } := by
  have course := (proofCourse_noObject_iff s x.cfg.proving x.cfg.expected).mpr h
  cases kind
  case latch => contradiction
  all_goals simp [startProof, endProof_idle idle, found, newProof, course, outcomeAtStart, blankProof]

theorem startProof_already (h : AlreadyThere s x.cfg.proving x.cfg.expected) : startProof i kind s
    = postOutcome i .already (blankProof s x kind) 0 (s.setProof i (blankProof s x kind)) := by
  have course := (proofCourse_already_iff s x.cfg.proving x.cfg.expected).mpr h
  simp [startProof, endProof_idle idle, found, newProof, course, outcomeAtStart, blankProof]

theorem startProof_watch (h : ¬ NothingToWatch s x.cfg.proving) (k : ¬ AlreadyThere s x.cfg.proving x.cfg.expected) :
    startProof i kind s = s.setProof i
      { blankProof s x kind with phase := .watching, deadline := some (after s.clock (x.cfg.provingMs * 10)) } := by
  have course := (proofCourse_watch_iff s x.cfg.proving x.cfg.expected).mpr ⟨h, k⟩
  simp [startProof, endProof_idle idle, found, newProof, course, outcomeAtStart, blankProof, msUnits]

end Start

theorem startProof_endProof (i : OutId) (kind : CmdKind) (s : State) :
    startProof i kind s = startProof i kind (endProof i .abandoned 0 s) := by
  unfold startProof
  rw [endProof_idle (phase_endProof .abandoned 0 s)]

/-- Settles O42: the old proof ends first; then the course, by the first test that applies. -/
theorem proofStartsAndEnds : Obligations.ProofStartsAndEnds := by
  unfold Obligations.ProofStartsAndEnds
  refine ⟨fun s i kind => ⟨startProof_endProof i kind s, fun x idle found => ?_⟩,
    fun s i outcome time => ⟨fun h => endProof_idle h outcome time, fun x h found => ?_⟩⟩
  · refine ⟨fun h latch => ?_, fun h pulse => startProof_awaiting kind found idle h pulse, fun h => ?_,
      fun h k => startProof_watch kind found idle h k⟩
    · rw [startProof_latch kind found idle h latch]
      exact postOutcome_eq (s := s.setProof i _) found _ _ 0
    · rw [startProof_already kind found idle h]
      exact postOutcome_eq (s := s.setProof i _) found _ _ 0
  · rw [endProof_eq h found, reportClass_eq]
    rfl

/-! ### Entering a state -/

theorem sampleDriver_running (found : s.output i = some x) (running : s.partState = .running) : sampleDriver i s
    = s.setOutput i { x with mismatch := sampleMismatch x (s.readbackOn i) s.clock } := by
  simp [sampleDriver, found, running]

theorem sampleDriver_asleep (h : s.output i = none ∨ s.partState ≠ .running) : sampleDriver i s = s := by
  unfold sampleDriver
  split
  · rename_i x hx
    exact if_neg (h.resolve_left (by simp [hx]))
  · rfl

theorem sampleMismatch_eq (x : Output) (on : Bool) (now : Time) : sampleMismatch x on now
    = if x.state = .faulted ∨ x.state.energised = on then none else x.mismatch.or (some now) := by
  unfold sampleMismatch
  split
  · simp [*]
  · simp [*]

theorem setOutput_setOutput (i : OutId) (x y : Output) (s : State) :
    (s.setOutput i x).setOutput i y = s.setOutput i y := by
  simp [State.setOutput]

theorem enterState_set (found : s.output i = some x) (st : OutState) :
    enterState i st s = sampleDriver i (s.setOutput i { x with state := st }) := by
  simp [enterState, found]

theorem enterState_eq (found : s.output i = some x) (st : OutState) (ok : st ≠ .faulted) : enterState i st s
    = s.setOutput i { x with state := st, mismatch := mismatchNow s i st.energised x.mismatch } := by
  rw [enterState_set found]
  by_cases running : s.partState = .running
  · rw [sampleDriver_running (output_setOutput_same s i _) running, setOutput_setOutput, sampleMismatch_eq]
    simp [mismatchNow, running, ok, State.readbackOn]
  · have asleep : (s.setOutput i { x with state := st }).partState ≠ .running := running
    rw [sampleDriver_asleep (.inr asleep)]
    simp [mismatchNow, running]

theorem enterState_faulted (found : s.output i = some x) (running : s.partState = .running) : enterState i .faulted s
    = s.setOutput i { x with state := .faulted, mismatch := none } := by
  rw [enterState_set found, sampleDriver_running (output_setOutput_same s i _) running, setOutput_setOutput,
    sampleMismatch_eq]
  rfl

theorem proofPulseEnd_awaiting (h : (s.proof i).phase = .awaitingPulseEnd) :
    proofPulseEnd i s = endProof i .noProof 0 s := if_pos h

theorem proofPulseEnd_other (h : (s.proof i).phase ≠ .awaitingPulseEnd) : proofPulseEnd i s = s := if_neg h

theorem endPulse_eq (found : s.output i = some x) : endPulse i s
    = proofPulseEnd i (s.setOutput i { x with state := .off, mismatch := mismatchNow s i false x.mismatch }) := by
  rw [endPulse, enterState_eq found .off nofun]
  rfl

theorem setReadback_asleep (on : Bool) (h : s.output i = none ∨ s.partState ≠ .running) :
    setReadback i on s = { s with readback := upd s.readback i on } :=
  sampleDriver_asleep (s := { s with readback := upd s.readback i on }) h

theorem setReadback_running (on : Bool) (found : s.output i = some x) (running : s.partState = .running) :
    setReadback i on s = ({ s with readback := upd s.readback i on } : State).setOutput i { x with
      mismatch := if x.state = .faulted ∨ x.state.energised = on then none else x.mismatch.or (some s.clock) } := by
  refine (sampleDriver_running (s := { s with readback := upd s.readback i on }) found running).trans ?_
  rw [sampleMismatch_eq]
  simp [State.readbackOn]

theorem exec_readbackChange (i : OutId) (on : Bool) (s : State) :
    exec (.readbackChange i on) s = .next (schedule (setReadback i on s)) := rfl

/-- Settles O43: each timing's test holds, and its operation is the state entered and the proof ended. -/
theorem outputTimings : Obligations.OutputTimings := by
  unfold Obligations.OutputTimings
  refine ⟨fun s i x found => ⟨fun e awake pulsing due => ?_, fun d awake watching deadline due => ?_,
    fun m awake running sound mismatch lasted => ?_, fun on => ⟨fun asleep => ?_, fun running => ?_⟩⟩,
    fun s i on none_ => ?_⟩
  · have step : exec (.pulseEnd i) s = .next (schedule (endPulse i s)) :=
      Steps.whenDue_due _ awake ((pulseEndDue_iff s i).mpr ⟨x, e, found, pulsing, due⟩)
    rw [endPulse_eq found] at step
    refine ⟨fun awaiting => ?_, fun other => ?_⟩
    · rwa [proofPulseEnd_awaiting (s := s.setOutput i _) awaiting] at step
    · rwa [proofPulseEnd_other (s := s.setOutput i _) other] at step
  · exact Steps.whenDue_due _ awake ((proofDue_iff s i).mpr ⟨watching, d, deadline, due⟩)
  · have step : exec (.driverCheckFault i) s = .next (schedule (driverFault i s)) :=
      Steps.whenDue_due _ awake ((driverFaultDue_iff s i).mpr ⟨running, x, m, found, sound, mismatch, lasted⟩)
    rwa [driverFault, enterState_faulted found running] at step
  · rw [LeadsTo, exec_readbackChange, setReadback_asleep on (.inr asleep)]
  · rw [LeadsTo, exec_readbackChange, setReadback_running on found running]
  · rw [LeadsTo, exec_readbackChange, setReadback_asleep on (.inl none_)]

/-! ### The proofs a committed change ends -/

theorem mem_freeOrder {α : Type} [DecidableEq α] (a : α) :
    ∀ (n k : Nat) (l : List α), l.length ≤ n → (a ∈ freeOrder n k l ↔ a ∈ l)
  | 0, _, _, _ => .rfl
  | _ + 1, _, [], _ => .rfl
  | _ + 1, _, [_], _ => .rfl
  | n + 1, k, x :: y :: xs, h => by
    have picked := Steps.freePick_mem k x (y :: xs)
    rw [freeOrder, List.mem_cons]
    · rw [mem_freeOrder a n (k + 1) _ (by rw [List.length_erase_of_mem picked]; simpa using h)]
      by_cases same : a = freePick k x (y :: xs)
      · simp [same, picked]
      · simp [same, List.mem_erase_of_ne same]
    · simp

theorem mem_proversOf {n : ObjId} {v : Indication} : i ∈ proversOf s n v
    ↔ (s.proof i).phase = .watching ∧ (s.proof i).object = some n ∧ (s.proof i).expected = some v := by
  rw [proversOf, mem_freeOrder]
  · simp [watches]
  · exact (List.length_filter_le _ _).trans (by simp)

/-- The outcome with which a change at a time ends a proof that began at another (R135). -/
def provenOutcome (t start : Time) : ProofOutcome := if precedes t start then .already else .proven

/-- The proof time a change posts (R135). -/
def provenTime (t start : Time) : Nat := if precedes t start then 0 else sat16 (interval start t)

theorem proveChange_eq (t : Time) (s : State) (i : OutId) : proveChange t s i
    = endProof i (provenOutcome t (s.proof i).start) (provenTime t (s.proof i).start) s := by
  unfold proveChange provenOutcome provenTime
  dsimp only
  split <;> rfl

theorem untouched_proveChange (t : Time) (h : i ≠ j) (s : State) : Untouched i s (proveChange t s j) := by
  rw [proveChange_eq]
  exact untouched_endProof h _ _ s

theorem proveChange_idle (t : Time) (h : (s.proof i).phase = .none) : proveChange t s i = s := by
  rw [proveChange_eq, endProof_idle h]

/-- An output no change names, or whose proof has ended, is untouched by the changes of the others. -/
theorem untouched_foldl_proveChange (t : Time) : ∀ (l : List OutId) (s : State),
    i ∉ l ∨ (s.proof i).phase = .none → Untouched i s (l.foldl (proveChange t) s)
  | [], s, _ => .refl i s
  | j :: l, s, h => by
    rw [List.foldl_cons]
    by_cases same : i = j
    · subst same
      have idle := h.resolve_left (by simp)
      rw [proveChange_idle t idle]
      exact untouched_foldl_proveChange t l s (.inr idle)
    · have step := untouched_proveChange t same s
      refine step.trans (untouched_foldl_proveChange t l _ ?_)
      rw [step.proof]
      exact h.imp_left fun hn hm => hn (List.mem_cons_of_mem j hm)

/-- What a list of changes leaves of an output it names: its proof has ended once. -/
theorem foldl_proveChange_named (t : Time) {l : List OutId} {s : State} (h : i ∈ l) :
    ∃ v, Untouched i s v ∧ Untouched i (proveChange t v i) (l.foldl (proveChange t) s) := by
  induction l generalizing s with
  | nil => cases h
  | cons j l ih =>
    rw [List.foldl_cons]
    by_cases same : i = j
    · subst same
      refine ⟨s, .refl i s, untouched_foldl_proveChange t l _ (.inr ?_)⟩
      rw [proveChange_eq]
      exact phase_endProof _ _ s
    · obtain ⟨v, before, ended⟩ := ih (s := proveChange t s j) ((List.mem_cons.mp h).resolve_left same)
      exact ⟨v, (untouched_proveChange t same s).trans before, ended⟩

/-- Settles O44: the outputs named are those that watch, in whatever order they are taken. -/
theorem committedChangeProves : Obligations.CommittedChangeProves := by
  unfold Obligations.CommittedChangeProves
  intro s n v t
  refine ⟨?_, fun i other => ?_, fun i x watching found => ?_⟩
  · obtain ⟨_, _, _, _, _, h⟩ := notifyProofs_outputSide n v t s
    rw [h]
  · have same := untouched_foldl_proveChange (i := i) t (proversOf s n v) { s with free := s.free + (proversOf s n v).length }
      (.inl (mt mem_proversOf.mp other))
    exact ⟨same.output, same.proof⟩
  · obtain ⟨w, before, ended⟩ := foldl_proveChange_named (i := i) t
      (s := { s with free := s.free + (proversOf s n v).length }) (mem_proversOf.mpr watching)
    have found' : w.output i = some x := before.output.trans found
    have proof' : w.proof i = s.proof i := before.proof
    have flying : (w.proof i).phase ≠ .none := by rw [proof', watching.1]; nofun
    rw [proveChange_eq] at ended
    refine ⟨?_, ?_, ?_⟩
    · exact ended.proof.trans ((proof_endProof _ _ flying).trans (by rw [proof']))
    · have held := (requested_endProof flying found' (provenOutcome t (w.proof i).start)
        (provenTime t (w.proof i).start)).1
      rw [← ended.held.1, ← ended.held.2] at held
      exact held
    · refine ended.output.trans ((output_endProof flying found' _ _).trans ?_)
      rw [proof']
      rfl

/-! ### The effect of an event at an object -/

theorem holds_notifyProofs {src : Source} (h : ∀ i, src ≠ .output i) (n : ObjId) (v : Indication) (t : Time) (s : State) :
    HoldsKept src s (notifyProofs n v t s) := by
  suffices ∀ (l : List OutId) (u : State), HoldsKept src u (l.foldl (proveChange t) u) from
    this (proversOf s n v) { s with free := s.free + (proversOf s n v).length }
  intro l
  induction l with
  | nil => exact .refl src
  | cons j l ih =>
    intro u
    rw [List.foldl_cons, proveChange_eq]
    exact (holds_endProof (h j) _ _ u).trans (ih _)

/-- The record written and the proofs told, before the one request. -/
def applied (n : ObjId) (p : ObjStep) (s : State) : State :=
  match p.change with
  | some (v, t) => notifyProofs n v t (s.setObject n p.obj)
  | none => s.setObject n p.obj

theorem applyStep_silent {n : ObjId} {p : ObjStep} (h : p.reason = none) (s : State) :
    applyStep n p s = applied n p s := by
  simp only [applyStep, applied, h] <;> rfl

theorem applyStep_reason {n : ObjId} {p : ObjStep} {c : ReportClass} (h : p.reason = some c) (s : State) :
    applyStep n p s = request (.object n) c (applied n p s) := by
  simp only [applyStep, applied, h] <;> rfl

theorem applied_unchanged {n : ObjId} {p : ObjStep} (h : p.change = none) (s : State) :
    applied n p s = s.setObject n p.obj := by
  simp only [applied, h]

theorem applied_changed {n : ObjId} {p : ObjStep} {v : Indication} {t : Time} (h : p.change = some (v, t)) (s : State) :
    applied n p s = notifyProofs n v t (s.setObject n p.obj) := by
  simp only [applied, h]

theorem objects_applied (n : ObjId) (p : ObjStep) (s : State) :
    (applied n p s).objects = (s.setObject n p.obj).objects := by
  unfold applied
  split
  · rename_i v t _
    obtain ⟨_, _, _, _, _, h⟩ := notifyProofs_outputSide n v t (s.setObject n p.obj)
    rw [h]
  · rfl

theorem holds_applied (n : ObjId) (p : ObjStep) (s : State) : HoldsKept (.object n) s (applied n p s) := by
  unfold applied
  split
  · exact holds_notifyProofs (fun _ h => by cases h) n _ _ (s.setObject n p.obj)
  · exact ⟨rfl, rfl⟩

theorem object_applyStep (n : ObjId) (p : ObjStep) (s : State) (m : ObjId) :
    (applyStep n p s).object m = if m = n then some p.obj else s.object m := by
  have written : (applied n p s).object m = if m = n then some p.obj else s.object m :=
    (object_of_objects (objects_applied n p s) m).trans (object_setObject s n m p.obj)
  cases h : p.reason with
  | none => rw [applyStep_silent h, written]
  | some c => rw [applyStep_reason h, object_request, written]

/-- Settles O14: the record, the proofs, and then the one request. -/
theorem applyStepEffect : Obligations.ApplyStepEffect := by
  unfold Obligations.ApplyStepEffect
  intro n p s
  refine ⟨?_, ?_, fun m hm => ?_, fun hc hr => ?_, fun c hc hr => ?_, fun v t hc hr => ?_, fun v t c hc hr => ?_,
    fun c hr => ?_, fun hr => ?_, fun hr => ?_⟩
  · obtain ⟨_, _, _, _, _, _, h⟩ := applyStep_objectSide n p s
    rw [h]
  · rw [object_applyStep, if_pos rfl]
  · rw [object_applyStep, if_neg hm]
  · rw [applyStep_silent hr, applied_unchanged hc]
  · rw [applyStep_reason hr, applied_unchanged hc]
  · rw [applyStep_silent hr, applied_changed hc]
  · rw [applyStep_reason hr, applied_changed hc]
  · rw [applyStep_reason hr]
    exact (request_self _ c _).1
  · rw [applyStep_reason hr]
    exact (request_self _ .urgent _).2 rfl
  · rw [applyStep_silent hr]
    exact holds_applied n p s

end Sys2Proof.Proofs.Outcomes
end

section
/-! What one event does to an object: committed changes, deadlines, and the edges of the three kinds. -/

namespace Sys2Proof.Proofs.Objects

open Sys2Proof.Machine Sys2Proof.Safety Sys2Proof.Laws

variable {s : State} {o : Obj} {p : ObjStep} {v : Indication} {t : Time}

/-! ### Reasons -/

theorem joinReason_urgent {a b : Option ReportClass} :
    joinReason a b = some .urgent ↔ a = some .urgent ∨ b = some .urgent := by
  cases a with
  | none => simp [Coded.joinReason_none_left]
  | some c => cases c <;> rcases b with _ | ⟨_ | _⟩ <;> simp [joinReason]

theorem joinReason_none {a b : Option ReportClass} : joinReason a b = none ↔ a = none ∧ b = none := by
  cases a with
  | none => simp [Coded.joinReason_none_left]
  | some c => cases c <;> rcases b with _ | ⟨_ | _⟩ <;> simp [joinReason]

theorem changeClass_eq (o : Obj) (v : Indication) : changeClass o v = classInto o.cfg.urgent v := rfl

/-! ### Committed changes -/

theorem settle_eq (v : Indication) (o : Obj) :
    Obj.settle v o = { o with settled := settledAfter o.cfg.kind v o.settled } := by
  unfold Obj.settle Obj.counts settledAfter
  by_cases hk : o.cfg.kind = .coded
  · simp [hk]
  · cases v <;> simp [hk, Indication.rest]

/-- The chatter limiter holds the change of a quarantined object (R85). -/
theorem offer_held (v : Indication) (h : p.obj.quarantined = true) :
    p.offer v = { p with obj := { p.obj with windowCount := min (p.obj.windowCount + 1) 255 } } := by
  simp [ObjStep.offer, h, satInc]

/-- A count above the limit begins a quarantine (R84). -/
theorem offer_begins (v : Indication) (h : p.obj.quarantined = false) (limit : p.obj.cfg.chatterLimit ≠ 0)
    (above : p.obj.cfg.chatterLimit < min (p.obj.windowCount + 1) 255) :
    p.offer v = { p with
      obj := { p.obj with windowCount := min (p.obj.windowCount + 1) 255, quarantined := true,
                          events := p.obj.events ||| Event.quarantineOn.bit }
      reason := joinReason p.reason (some .urgent) } := by
  simp only [ObjStep.offer, h, satInc, Bool.false_eq_true, if_false, if_pos (And.intro limit above)]
  rfl

/-- Otherwise the reported indication follows (R20). -/
theorem offer_follows (v : Indication) (h : p.obj.quarantined = false)
    (below : ¬ (p.obj.cfg.chatterLimit ≠ 0 ∧ p.obj.cfg.chatterLimit < min (p.obj.windowCount + 1) 255)) :
    p.offer v = { p with
      obj := { p.obj with windowCount := min (p.obj.windowCount + 1) 255, reported := v }
      reason := joinReason p.reason (some (classInto p.obj.cfg.urgent v)) } := by
  simp only [ObjStep.offer, h, satInc, Bool.false_eq_true, if_false, if_neg below]
  simp [ObjStep.follow, changeClass, classInto]

/-- The change is an operation (R29). -/
def Operates (o : Obj) (v : Indication) : Prop := o.cfg.kind ≠ .coded ∧ v = .picked ∧ o.settled = some .dropped

/-- The service threshold stands reached at a count of operations, with the latch clear (R30). -/
def ServiceDue (o : Obj) (count : Nat) : Prop :=
  o.cfg.service ≠ 0 ∧ o.cfg.service ≤ count ∧ o.serviceLatch = false

theorem operation_none (h : ¬ Operates p.obj v) : p.operation v = { p with obj := Obj.settle v p.obj } := by
  simp only [ObjStep.operation]
  rw [if_neg (by simpa [Operates, Obj.counts] using h)]
  rfl

theorem serviceTest_due (h : ServiceDue p.obj p.obj.opCount) : p.serviceTest = { p with
    obj := { p.obj with serviceLatch := true, events := p.obj.events ||| Event.serviceDue.bit }
    reason := joinReason p.reason (some .routine) } := if_pos h

theorem serviceTest_not (h : ¬ ServiceDue p.obj p.obj.opCount) : p.serviceTest = p := if_neg h

theorem operation_quiet (h : Operates p.obj v) (k : ¬ ServiceDue p.obj (min (p.obj.opCount + 1) 65535)) :
    p.operation v = { p with obj := Obj.settle v { p.obj with opCount := min (p.obj.opCount + 1) 65535 } } := by
  simp only [ObjStep.operation]
  rw [if_pos (by simpa [Operates, Obj.counts] using h), serviceTest_not k]
  rfl

theorem operation_due (h : Operates p.obj v) (k : ServiceDue p.obj (min (p.obj.opCount + 1) 65535)) :
    p.operation v = { p with
      obj := Obj.settle v { p.obj with opCount := min (p.obj.opCount + 1) 65535, serviceLatch := true,
                                       events := p.obj.events ||| Event.serviceDue.bit }
      reason := joinReason p.reason (some .routine) } := by
  simp only [ObjStep.operation]
  rw [if_pos (by simpa [Operates, Obj.counts] using h), serviceTest_due k]
  rfl

theorem commit_eq (v : Indication) (t : Time) (p : ObjStep) : p.commit v t
    = (({ p with obj := p.obj.setChange v t, change := some (v, t) } : ObjStep).offer v).operation v := rfl

/-- The limiter begins a quarantine at this change (R84). -/
def Begins (o : Obj) : Prop :=
  o.quarantined = false ∧ o.cfg.chatterLimit ≠ 0 ∧ o.cfg.chatterLimit < min (o.windowCount + 1) 255

/-- What the limiter makes of a change: the reported indication, the quarantine, the events and the reason (R82 to R85). -/
structure Offered (v : Indication) (p q : ObjStep) : Prop where
  change : q.change = p.change
  obj : q.obj = { p.obj with windowCount := min (p.obj.windowCount + 1) 255, reported := q.obj.reported,
                             quarantined := q.obj.quarantined, events := q.obj.events }
  quarantined : q.obj.quarantined = true ↔ p.obj.quarantined = true ∨ Begins p.obj
  held : p.obj.quarantined = true ∨ Begins p.obj → q.obj.reported = p.obj.reported
  follows : ¬ (p.obj.quarantined = true ∨ Begins p.obj) → q.obj.reported = v
  raised : Begins p.obj → q.obj.events = p.obj.events ||| Event.quarantineOn.bit
  quiet : ¬ Begins p.obj → q.obj.events = p.obj.events
  urgent : q.reason = some .urgent ↔ p.reason = some .urgent ∨ Begins p.obj
    ∨ (p.obj.quarantined = false ∧ ¬ Begins p.obj ∧ classInto p.obj.cfg.urgent v = .urgent)
  silent : q.reason = none ↔ p.reason = none ∧ p.obj.quarantined = true

theorem offered (v : Indication) (p : ObjStep) : Offered v p (p.offer v) := by
  cases h : p.obj.quarantined with
  | true =>
    have not : ¬ Begins p.obj := fun b => by simp [Begins, h] at b
    rw [offer_held v h]
    constructor <;> simp [h, not]
  | false =>
    by_cases above : p.obj.cfg.chatterLimit ≠ 0 ∧ p.obj.cfg.chatterLimit < min (p.obj.windowCount + 1) 255
    · have begins : Begins p.obj := ⟨h, above⟩
      rw [offer_begins v h above.1 above.2]
      constructor <;> simp [h, begins, joinReason_urgent, joinReason_none]
    · have not : ¬ Begins p.obj := fun b => above b.2
      rw [offer_follows v h above]
      constructor <;> simp [h, not, joinReason_urgent, joinReason_none]

/-- What the operation count makes of a change: the count, the latch, the events and the reason (R29, R30). -/
structure Counted (v : Indication) (p q : ObjStep) : Prop where
  change : q.change = p.change
  obj : q.obj = { p.obj with settled := settledAfter p.obj.cfg.kind v p.obj.settled, events := q.obj.events,
                             opCount := q.obj.opCount, serviceLatch := q.obj.serviceLatch }
  counts : Operates p.obj v → q.obj.opCount = min (p.obj.opCount + 1) 65535
  stands : ¬ Operates p.obj v → q.obj.opCount = p.obj.opCount
  latch : q.obj.serviceLatch = true
    ↔ p.obj.serviceLatch = true ∨ (Operates p.obj v ∧ ServiceDue p.obj (min (p.obj.opCount + 1) 65535))
  raised : Operates p.obj v ∧ ServiceDue p.obj (min (p.obj.opCount + 1) 65535) →
    q.obj.events = p.obj.events ||| Event.serviceDue.bit
  quiet : ¬ (Operates p.obj v ∧ ServiceDue p.obj (min (p.obj.opCount + 1) 65535)) → q.obj.events = p.obj.events
  urgent : q.reason = some .urgent ↔ p.reason = some .urgent
  silent : q.reason = none
    ↔ p.reason = none ∧ ¬ (Operates p.obj v ∧ ServiceDue p.obj (min (p.obj.opCount + 1) 65535))

theorem counted (v : Indication) (p : ObjStep) : Counted v p (p.operation v) := by
  by_cases h : Operates p.obj v
  · by_cases k : ServiceDue p.obj (min (p.obj.opCount + 1) 65535)
    · rw [operation_due h k, settle_eq]
      constructor <;> simp [h, k, joinReason_urgent, joinReason_none]
    · rw [operation_quiet h k, settle_eq]
      constructor <;> simp [h, k]
  · rw [operation_none h, settle_eq]
    constructor <;> simp [h]

/-- Settles O16: the limiter's part of a committed change, then the operation count's. -/
theorem committedChange : Obligations.CommittedChange := by
  unfold Obligations.CommittedChange
  intro v t p
  dsimp only
  rw [commit_eq]
  have offer := offered v { p with obj := p.obj.setChange v t, change := some (v, t) }
  generalize ObjStep.offer v { p with obj := p.obj.setChange v t, change := some (v, t) } = q at offer ⊢
  have count := counted v q
  generalize q.operation v = r at count ⊢
  have ops : Operates q.obj v ↔ Operates p.obj v := by rw [offer.obj]; rfl
  have due : ∀ k, ServiceDue q.obj k ↔ ServiceDue p.obj k := fun k => by rw [offer.obj]; rfl
  have opCount : q.obj.opCount = p.obj.opCount := by rw [offer.obj]; rfl
  have latch : q.obj.serviceLatch = p.obj.serviceLatch := by rw [offer.obj]; rfl
  obtain ⟨rc, ro, counts, stands, latched, raised, quiet, rurgent, rsilent⟩ := count
  simp only [ops, due, opCount, latch] at counts stands latched raised quiet rsilent
  have reported : r.obj.reported = q.obj.reported := by rw [ro]
  have quarantined : r.obj.quarantined = q.obj.quarantined := by rw [ro]
  refine ⟨rc.trans offer.change, ?_, quarantined ▸ offer.quarantined, fun h => reported.trans (offer.held h),
    fun h => reported.trans (offer.follows h), counts, stands, latched, fun b d => ?_, fun b d => ?_, fun b d => ?_,
    fun b d => ?_, rurgent.trans offer.urgent, ?_⟩
  · rw [ro, offer.obj]
    rfl
  · rw [raised d, offer.raised b]
    rfl
  · rw [quiet d, offer.raised b]
    rfl
  · rw [raised d, offer.quiet b]
    rfl
  · rw [quiet d, offer.quiet b]
    rfl
  · rw [rsilent, offer.silent, and_assoc]
    rfl

/-! ### The deadlines -/

theorem classify_eq (s : State) (o : Obj) : classify s o
    = contactIndication o.cfg.kind (s.point o.cfg.pointA).filtered (s.point (secondPoint o.cfg)).filtered := by
  unfold classify secondPoint
  rcases o.cfg.kind with ⟨_ | _⟩ | b | _
  case pair =>
    cases ha : (s.point o.cfg.pointA).filtered <;> cases hb : (s.point b).filtered <;> simp [contactIndication, hb]
  all_goals cases (s.point o.cfg.pointA).filtered <;> rfl

/-- The origin a value leaves, taken by a PAIR alone (R26). -/
def originAfter (o : Obj) (v : Indication) : Option Rest :=
  match o.cfg.kind with
  | .pair _ => settledAfter o.cfg.kind v o.origin
  | .single _ | .coded => o.origin

theorem leaveUnproven_eq (v : Indication) (t : Time) (o : Obj) : o.begin.leaveUnproven v t =
    { obj := { o with evaluated := .shown v, reported := v, lastChange := t, changes := min (o.changes + 1) 255,
                      settleDeadline := none, settled := settledAfter o.cfg.kind v o.settled, origin := originAfter o v }
      reason := some (classInto o.cfg.urgent v)
      change := some (v, t) } := by
  cases hk : o.cfg.kind with
  | pair b =>
    simp only [ObjStep.leaveUnproven, ObjStep.follow, Obj.begin, Obj.setChange, settle_eq, hk, Coded.joinReason_none_left,
      changeClass_eq, originAfter, satInc]
    cases v <;> simp [settledAfter, Indication.rest]
  | _ =>
    simp only [ObjStep.leaveUnproven, ObjStep.follow, Obj.begin, Obj.setChange, settle_eq, hk, Coded.joinReason_none_left,
      changeClass_eq, originAfter, satInc]

/-- What the end of settle-in leaves of a CODED object's record besides: an empty ring (R25). -/
theorem settleStep_eq (s : State) (o : Obj) : settleStep s o =
    { o.begin.leaveUnproven (classify s o) s.clock with
      obj := { (o.begin.leaveUnproven (classify s o) s.clock).obj with
        code := match o.cfg.kind with
          | .coded => { o.code with anchor := none, periods := [], candidate := none }
          | .single _ | .pair _ => o.code } } := by
  unfold settleStep
  rw [leaveUnproven_eq]
  cases o.cfg.kind <;> rfl

theorem steadyIndication_eq (level : Level) : steadyIndication level = contactIndication .coded level .opn := by
  cases level <;> rfl

/-- Settles O17: each deadline's test holds at a live object, and its step is the one of its rule. -/
theorem objectDeadlines : Obligations.ObjectDeadlines := by
  unfold Obligations.ObjectDeadlines
  refine ⟨fun s n o d awake running found live unproven deadline due => ?_,
    fun s n o d awake running found live due => ⟨fun moving deadline => ?_, fun pending deadline => ?_⟩,
    fun s n o d awake running found live coded deadline due => ?_⟩
  all_goals have alive : s.live n = some o := live_eq_some.mpr ⟨found, live⟩
  · have step : exec (.settleInDeadline n) s = .next (schedule (settleIn n s)) :=
      Steps.whenDue_due _ awake ((settleDue_iff s n).mpr ⟨o, ⟨running, found, live⟩, unproven, d, deadline, due⟩)
    dsimp only
    rw [LeadsTo, step, ← classify_eq]
    simp only [settleIn, alive, settleStep_eq, leaveUnproven_eq]
    rfl
  · have step : exec (.transitDeadline n) s = .next (schedule (transitExpired n s)) :=
      Steps.whenDue_due _ awake ((transitDue_iff s n).mpr ⟨o, ⟨running, found, live⟩, moving, d, deadline, due⟩)
    rw [LeadsTo, step]
    simp only [transitExpired, alive, deadline]
    rfl
  · have step : exec (.conflictDeadline n) s = .next (schedule (conflictExpired n s)) :=
      Steps.whenDue_due _ awake ((conflictDue_iff s n).mpr ⟨o, ⟨running, found, live⟩, pending, d, deadline, due⟩)
    rw [LeadsTo, step]
    simp only [conflictExpired, alive, deadline]
    rfl
  · have step : exec (.steadyDeadline n) s = .next (schedule (steadyExpired n s)) :=
      Steps.whenDue_due _ awake ((steadyDue_iff s n).mpr ⟨o, ⟨running, found, live⟩, coded, d, deadline, due⟩)
    simp only [steadyExpired, alive, deadline, steadyStep] at step
    rw [steadyIndication_eq] at step
    refine ⟨fun same => ?_, fun other => ?_⟩
    · rwa [if_pos same] at step
    · rwa [if_neg other] at step

/-! ### Edges at SINGLE and at unclassified objects -/

theorem singleIndication_eq (sense : Sense) (level other : Level) :
    singleIndication sense level = contactIndication (.single sense) level other := by
  cases sense <;> cases level <;> rfl

/-- Settles O18: the evaluator of the object's kind, before and after it is classified. -/
theorem singleAndUnprovenEdges : Obligations.SingleAndUnprovenEdges := by
  unfold Obligations.SingleAndUnprovenEdges
  refine fun s p level cap o => ⟨fun kind unproven => ?_, fun sense kind proven => ?_⟩
  · unfold edgeStep
    split
    · contradiction
    · rw [if_pos unproven]
      rfl
    · rw [if_pos unproven]
      rfl
  · simp only [edgeStep, kind, if_neg proven]
    rw [singleIndication_eq sense level level]
    rfl

/-! ### The table of section 3.6 -/

theorem applyTransit_eq (o : Obj) : o.applyTransit = { o with
    cfg := { o.cfg with transitMs := o.staged.transit.getD o.cfg.transitMs }
    staged := { o.staged with transit := none } } := by
  unfold Obj.applyTransit
  cases h : o.staged.transit with
  | none =>
    have same : { o.staged with transit := none } = o.staged := by rw [← h]
    rw [Option.getD_none, same]
  | some l => rfl

theorem edgeStep_pair {p b : PointId} {level : Level} {cap : Time} (kind : o.cfg.kind = .pair b)
    (proven : o.evaluated ≠ .shown .unproven) : edgeStep s p level cap o
      = pairEdge (s.pairTimes o.cfg.pointA b) (decide (p = o.cfg.pointA)) level cap o := by
  simp only [edgeStep, kind, if_neg proven]

theorem pairEdge_rest {k : PairTimes} {front : Bool} {level : Level} {cap : Time} (rest : Rest)
    (h : o.evaluated = .shown rest.indication) : pairEdge k front level cap o = restEdge k rest front level cap o := by
  unfold pairEdge
  rw [h]
  cases rest <;> rfl

theorem opposite_ne (r : Rest) : r ≠ r.opposite := by cases r <;> nofun

section Table

variable {k : PairTimes} {front : Bool} {level : Level} {cap start : Time}

theorem pairEdge_transit (h : o.evaluated = .transit) : pairEdge k front level cap o = transitEdge front level cap o := by
  simp only [pairEdge, h]

theorem pairEdge_lost (h : o.evaluated = .shown .lost) : pairEdge k front level cap o = lostEdge front level cap o := by
  simp only [pairEdge, h]

theorem pairEdge_pending (h : o.evaluated = .conflictPending) :
    pairEdge k front level cap o = pendingEdge front level cap o := by
  simp only [pairEdge, h]

theorem pairEdge_conflict (h : o.evaluated = .shown .conflict) :
    pairEdge k front level cap o = conflictEdge front level cap o := by
  simp only [pairEdge, h]

theorem restEdge_opn : restEdge k (contactRest front) front .opn cap o
    = beginTransit (contactRest front) (k.completing (contactRest front)) cap k.now o := if_pos rfl

theorem restEdge_made : restEdge k (contactRest front).opposite front .made cap o
    = beginConflict (contactRest front).opposite k.delay cap k.now o := if_neg (opposite_ne _)

theorem transitEdge_mine (ht : o.pair.transitStart = some start) (ho : o.origin = some (contactRest front)) :
    transitEdge front .made cap o = abortTransit (contactRest front) o := by
  simp only [transitEdge, ht, ho, if_true]

theorem transitEdge_other (ht : o.pair.transitStart = some start) (ho : o.origin = some (contactRest front).opposite) :
    transitEdge front .made cap o = transfer (contactRest front).opposite start cap cap o := by
  simp only [transitEdge, ht, ho, if_neg (opposite_ne _)]

theorem lostEdge_mine (ht : o.pair.transitStart = some start) (ho : o.origin = some (contactRest front)) :
    lostEdge front .made cap o = lostReturn (contactRest front) cap o := by
  simp only [lostEdge, ht, ho, if_true]

theorem lostEdge_other (ht : o.pair.transitStart = some start) (ho : o.origin = some (contactRest front).opposite) :
    lostEdge front .made cap o = transfer (contactRest front).opposite start cap cap o := by
  simp only [lostEdge, ht, ho, if_neg (opposite_ne _)]

theorem lostEdge_forgotten (ht : o.pair.transitStart = none) :
    lostEdge front .made cap o = commitRest (contactRest front) cap o := by
  cases ho : o.origin <;> simp only [lostEdge, ht, ho]

theorem pendingEdge_mine (hs : o.pair.conflictStart = some start) (ho : o.origin = some (contactRest front)) :
    pendingEdge front .opn cap o = transfer (contactRest front) cap start cap o := by
  simp only [pendingEdge, hs, ho, if_true]

theorem pendingEdge_other (hs : o.pair.conflictStart = some start) (ho : o.origin = some (contactRest front).opposite) :
    pendingEdge front .opn cap o = conflictReturn (contactRest front).opposite o := by
  simp only [pendingEdge, hs, ho, if_neg (opposite_ne _)]

end Table

theorem completing_eq (s : State) (p a b : PointId) : (s.pairTimes a b).completing (contactRest (decide (p = a)))
    = (s.group (groupOf (if p = a then b else a))).filterMs * 10 := by
  by_cases h : p = a <;> simp [h, contactRest, PairTimes.completing, State.pairTimes, State.filterUnits, msUnits]

theorem contactRest_eq (p a : PointId) :
    (if p = a then Rest.picked else .dropped) = contactRest (decide (p = a)) := by
  by_cases h : p = a <;> simp [h, contactRest]

/-- Settles O19: each row of the table is the row of the evaluator for the rest state of the edge's contact. -/
theorem pairEdgeTable : Obligations.PairEdgeTable := by
  unfold Obligations.PairEdgeTable
  intro s p b cap o kind differ side
  dsimp only
  rw [contactRest_eq, ← completing_eq s p o.cfg.pointA b]
  have edge : ∀ level, o.evaluated ≠ .shown .unproven → edgeStep s p level cap o
      = pairEdge (s.pairTimes o.cfg.pointA b) (decide (p = o.cfg.pointA)) level cap o := fun _ => edgeStep_pair kind
  generalize decide (p = o.cfg.pointA) = front at edge ⊢
  have classified : ∀ r : Rest, Evaluated.shown r.indication ≠ .shown .unproven := fun r => by cases r <;> nofun
  refine ⟨fun h => ?_, fun h => ?_, fun start h ht => ⟨fun ho => ?_, fun ho => ?_⟩,
    fun start h ht => ⟨fun ho => ?_, fun ho => ?_⟩, fun h ht => ?_, fun start h hs => ⟨fun ho => ?_, fun ho => ?_⟩,
    fun h => ?_⟩
  · rw [edge _ (h ▸ classified _), pairEdge_rest _ h, restEdge_opn, beginTransit, applyTransit_eq]
    rfl
  · rw [edge _ (h ▸ classified _), pairEdge_rest _ h, restEdge_made, beginConflict, applyTransit_eq]
    rfl
  · rw [edge _ (by rw [h]; nofun), pairEdge_transit h, transitEdge_mine ht ho]
    rfl
  · rw [edge _ (by rw [h]; nofun), pairEdge_transit h, transitEdge_other ht ho]
  · rw [edge _ (by rw [h]; nofun), pairEdge_lost h, lostEdge_mine ht ho]
    rfl
  · rw [edge _ (by rw [h]; nofun), pairEdge_lost h, lostEdge_other ht ho]
  · rw [edge _ (by rw [h]; nofun), pairEdge_lost h, lostEdge_forgotten ht]
    rfl
  · rw [edge _ (by rw [h]; nofun), pairEdge_pending h, pendingEdge_mine hs ho]
  · rw [edge _ (by rw [h]; nofun), pairEdge_pending h, pendingEdge_other hs ho]
    rfl
  · rw [edge _ (by rw [h]; nofun), pairEdge_conflict h]
    rfl

/-! ### Coded indications -/

theorem classifyRate_of_unique {bands : Vector (Option Band) 8} {rate : Nat} {i : Fin 8} {b : Band}
    (apart : ∀ j k x y, j ≠ k → bands.get j = some x → bands.get k = some y → ¬ (x.min ≤ y.max ∧ y.min ≤ x.max))
    (hb : bands.get i = some b) (low : b.min ≤ rate) (high : rate ≤ b.max) : classifyRate bands rate = .code i := by
  unfold classifyRate
  split
  · rename_i j hj
    obtain ⟨x, hx, lowx, highx⟩ : ∃ x, bands.get j = some x ∧ x.min ≤ rate ∧ rate ≤ x.max := by
      simpa [Option.any_eq_true, Band.holds] using List.find?_some hj
    by_cases same : j = i
    · rw [same]
    · exact absurd ⟨lowx.trans high, low.trans highx⟩ (apart j i x b same hx hb)
  · rename_i none_
    have := List.find?_eq_none.mp none_ i (List.mem_finRange i)
    simp [hb, Band.holds, low, high] at this

theorem classifyRate_of_none {bands : Vector (Option Band) 8} {rate : Nat}
    (h : ∀ i b, bands.get i = some b → ¬ (b.min ≤ rate ∧ rate ≤ b.max)) : classifyRate bands rate = .noCode := by
  unfold classifyRate
  split
  · rename_i j hj
    obtain ⟨x, hx, low, high⟩ : ∃ x, bands.get j = some x ∧ x.min ≤ rate ∧ rate ≤ x.max := by
      simpa [Option.any_eq_true, Band.holds] using List.find?_some hj
    exact absurd ⟨low, high⟩ (h j x hx)
  · rfl

theorem codeRate_four (p1 p2 p3 p4 : Nat) : codeRate [p1, p2, p3, p4]
    = max 1 (min ((600000 + (p1 + p2 + p3 + p4 + 2) / 4 / 2) / ((p1 + p2 + p3 + p4 + 2) / 4)) 999) := by
  simp [codeRate, rateOfMean, meanPeriod, clamp, Nat.add_assoc]

/-- Settles O21: the arithmetic of section 4 spelt out. -/
theorem codeArithmetic : Obligations.CodeArithmetic := by
  unfold Obligations.CodeArithmetic
  refine ⟨fun bands rate i b => classifyRate_of_unique, fun bands rate => classifyRate_of_none,
    fun p1 p2 p3 p4 _ _ _ _ => codeRate_four p1 p2 p3 p4, fun p1 p2 p3 p4 h1 h2 h3 h4 => ?_, fun _ _ _ => rfl,
    fun _ _ => min_le_right _ _⟩
  rw [codeRate_four]
  have mean : 20 ≤ (p1 + p2 + p3 + p4 + 2) / 4 ∧ (p1 + p2 + p3 + p4 + 2) / 4 < 201000 := by omega
  generalize (p1 + p2 + p3 + p4 + 2) / 4 = m at mean ⊢
  have rate : 3 ≤ (600000 + m / 2) / m := (Nat.le_div_iff_mul_le (by omega)).mpr (by omega)
  omega

theorem applySteady_eq (o : Obj) : o.applySteady = { o with
    cfg := { o.cfg with steadyMs := o.staged.steady.getD o.cfg.steadyMs }
    staged := { o.staged with steady := none } } := by
  unfold Obj.applySteady
  cases h : o.staged.steady with
  | none =>
    have same : { o.staged with steady := none } = o.staged := by rw [← h]
    rw [Option.getD_none, same]
  | some l => rfl

theorem edgeStep_coded {p : PointId} {level : Level} {cap : Time} (kind : o.cfg.kind = .coded) :
    edgeStep s p level cap o = codedEdge s.bands s.settleUnits level cap s.clock o := by
  simp only [edgeStep, kind]

theorem lastFour_append (periods : List Nat) (x : Nat) (h : periods.length ≤ 4) : lastFour (periods ++ [x])
    = if periods.length = 4 then periods.tail ++ [x] else periods ++ [x] := by
  unfold lastFour
  split
  · rename_i four
    have ne : periods ≠ [] := fun he => by simp [he] at four
    rw [List.length_append, four]
    simp [List.drop_append, List.drop_one, four]
  · rw [List.length_append]
    have short : periods.length + [x].length - 4 = 0 := by simp; omega
    rw [short, List.drop_zero]

/-- The object with its staged steady timeout applied and its timing restarted (R67). -/
def timed (s : State) (o : Obj) : Obj := o.applySteady.restartCode s.settleUnits s.clock

/-- Restarting the timing leaves the detector's own fields. -/
theorem code_timed (s : State) (o : Obj) : (timed s o).code.anchor = o.code.anchor
    ∧ (timed s o).code.periods = o.code.periods ∧ (timed s o).code.lastOnTime = o.code.lastOnTime := by
  unfold timed Obj.restartCode
  rw [applySteady_eq]
  split <;> exact ⟨rfl, rfl, rfl⟩

theorem timed_eq (s : State) (o : Obj) : timed s o = if o.evaluated = .shown .unproven
    then { o with cfg := { o.cfg with steadyMs := o.staged.steady.getD o.cfg.steadyMs }
                  staged := { o.staged with steady := none }
                  settleDeadline := some (after s.clock (s.timing.settleInMs * 10)) }
    else { o with cfg := { o.cfg with steadyMs := o.staged.steady.getD o.cfg.steadyMs }
                  staged := { o.staged with steady := none }
                  code := { o.code with
                    steadyDeadline := some (after s.clock (o.staged.steady.getD o.cfg.steadyMs * 10)) } } := by
  unfold timed
  rw [applySteady_eq]
  rfl

theorem edge_opn {p : PointId} {cap : Time} (kind : o.cfg.kind = .coded) :
    edgeStep s p .opn cap o = detectOpen cap (timed s o) := edgeStep_coded kind

theorem edge_made {p : PointId} {cap : Time} (kind : o.cfg.kind = .coded) :
    edgeStep s p .made cap o = detectMade s.bands cap s.clock (timed s o) := edgeStep_coded kind

section Detector

variable {x : Obj} {a cap now : Time} {bands : Vector (Option Band) 8}

theorem detectOpen_first (h : x.code.anchor = none) : detectOpen cap x = x.begin := by
  simp only [detectOpen, h]

theorem detectOpen_anchored (h : x.code.anchor = some a) : detectOpen cap x
    = ({ x with code := { x.code with lastOnTime := interval a cap } } : Obj).begin := by
  simp only [detectOpen, h]

theorem detectMade_first (h : x.code.anchor = none) : detectMade bands cap now x
    = ({ x with code := { x.code with anchor := some cap } } : Obj).begin := by
  simp only [detectMade, h]

theorem detectMade_anchored (h : x.code.anchor = some a) : detectMade bands cap now x
    = if (x.code.close a cap).periods.length = 4 then evaluate bands cap now { x with code := x.code.close a cap }
      else ({ x with code := x.code.close a cap } : Obj).begin := by
  simp only [detectMade, h]

end Detector

/-- Settles O22: the staged timeout and the timing restarted, then the detector's cases. -/
theorem codedEdges : Obligations.CodedEdges := by
  unfold Obligations.CodedEdges
  intro s p cap o kind short
  dsimp only
  rw [edge_opn kind, edge_made kind, ← timed_eq]
  obtain ⟨anchor, periods, onTime⟩ := code_timed s o
  generalize timed s o = x at anchor periods onTime ⊢
  refine ⟨fun first => ?_, fun a anchored => ?_⟩
  · rw [detectOpen_first (anchor.trans first), detectMade_first (anchor.trans first)]
    exact ⟨rfl, rfl⟩
  · rw [detectOpen_anchored (anchor.trans anchored), detectMade_anchored (anchor.trans anchored)]
    have closed : x.code.close a cap = { x.code with
        periods := if o.code.periods.length = 4 then o.code.periods.tail ++ [interval a cap]
          else o.code.periods ++ [interval a cap]
        lastDuty := duty x.code.lastOnTime (interval a cap)
        anchor := some cap } := by
      rw [CodeRec.close, periods, lastFour_append _ _ short]
    rw [closed, ← onTime]
    exact ⟨rfl, fun few => if_neg (Nat.ne_of_lt few), fun four => if_pos four⟩

end Sys2Proof.Proofs.Objects
end

section
/-! What the module sends: the scheduler's choice, the reports and snapshot records, their layouts, and the order of a
snapshot. -/

namespace Sys2Proof.Proofs.Sending

open Sys2Proof.Machine Sys2Proof.Safety Sys2Proof.Laws

variable {s : State}

/-! ### The choice -/

theorem routineWaiting_iff : s.routineWaiting = true ↔ s.snapshot ≠ none ∨ s.routine ≠ [] := by
  simp [State.routineWaiting, Option.isSome_iff_ne_none]

theorem routineWaiting_of_not (h : ¬ (s.snapshot ≠ none ∨ s.routine ≠ [])) : s.routineWaiting = false :=
  Bool.eq_false_iff.mpr (mt routineWaiting_iff.mp h)

theorem schedule_idle (h : s.tx = none) : schedule s = choose s := by
  simp [schedule, h]

/-- The number of urgent entries in a row a ratio mode allows, 0 for STRICT. -/
def runLimit (m : RatioMode) : Nat :=
  match m with
  | .strict => 0
  | .r8 => 8
  | .r4 => 4
  | .r2 => 2

theorem run_eq {m : RatioMode} (h : m ≠ .strict) : m.run = some (runLimit m) := by
  cases m
  case strict => contradiction
  all_goals rfl

theorem routineTurn_strict (h : s.reporting.ratio = .strict) : routineTurn s = false := by
  simp [routineTurn, h, RatioMode.run]

theorem routineTurn_eq (h : s.reporting.ratio ≠ .strict) :
    routineTurn s = decide (runLimit s.reporting.ratio ≤ s.urgentRun) := by
  simp [routineTurn, run_eq h]

theorem countUrgent_strict (h : s.reporting.ratio = .strict) : countUrgent s = s.urgentRun := by
  simp [countUrgent, h, RatioMode.run]

theorem countUrgent_eq (h : s.reporting.ratio ≠ .strict) : countUrgent s = s.urgentRun + 1 := by
  simp [countUrgent, run_eq h]

/-- Settles O51: the branches of the choice, by what waits. -/
theorem schedulerChoice : Obligations.SchedulerChoice := by
  unfold Obligations.SchedulerChoice
  intro s
  refine ⟨fun busy => schedule_busy (Option.isSome_iff_ne_none.mpr busy), fun p hp => ?_, fun e rest hp he => ?_,
    fun idle a rest ha => ?_, fun idle ha hu none_ => ?_, fun idle ha hu work => ?_, fun idle ha e rest hu =>
    ⟨fun none_ => ?_, fun work strict => ?_, fun work ratio few => ?_, fun work ratio run => ?_⟩⟩
  · simp [sendRoutine, hp]
  · simp [sendRoutine, hp, he]
  · rw [schedule_idle idle, Queues.choose_answer ha]
    rfl
  · rw [schedule_idle idle, Queues.choose_nothing ha hu (routineWaiting_of_not none_)]
  · rw [schedule_idle idle, Queues.choose_routine_alone ha hu (routineWaiting_iff.mpr work)]
  · rw [schedule_idle idle, Queues.choose_urgent_alone ha hu (routineWaiting_of_not none_)]
  · rw [schedule_idle idle, Queues.choose_urgent_turn ha hu (routineWaiting_iff.mpr work) (routineTurn_strict strict),
      countUrgent_strict strict]
  · have turn : routineTurn s = false := by
      rw [routineTurn_eq ratio]
      exact decide_eq_false (Nat.not_le_of_lt few)
    rw [schedule_idle idle, Queues.choose_urgent_turn ha hu (routineWaiting_iff.mpr work) turn, countUrgent_eq ratio]
  · have turn : routineTurn s = true := by
      rw [routineTurn_eq ratio]
      exact decide_eq_true (Nat.le_of_eq run.symm)
    rw [schedule_idle idle, Queues.choose_routine_turn ha hu (routineWaiting_iff.mpr work) turn]

/-! ### Reports and snapshot records -/

section Delivery

variable {src : Source} {m : Marks} {at_ : Time} {n : ObjId} {o : Obj} {i : OutId} {x : Output}

theorem deliver_object (found : s.object n = some o) : deliver (.object n) m at_ s
    = some (stateReport n o o.events m at_, s.setObject n { o with events := 0, changes := 0 }) := by
  simp [deliver, found, Obj.delivered]

theorem deliver_output (found : s.output i = some x) : deliver (.output i) m at_ s
    = some (outcomeReport i x (s.readbackOn i) x.result.shown m at_,
        s.setOutput i { x with result := { x.result with unsent := false, lost := 0 } }) := by
  simp [deliver, found, Output.delivered]

theorem sendEntry_of_deliver {e : Entry} {urgent : Bool} {f : Frame} {u : State}
    (h : deliver e.source { urgent := urgent, snapshot := false, urgentPending := false } e.created
      (removeEntry e.source s) = some (f, u)) : sendEntry e urgent s = transmit f [] false u := by
  simp only [sendEntry, h]

theorem sendRecord_beside {f : Frame} (held : holds s.urgent src = true) (h : standingRecord src s = some f) :
    sendRecord src s = transmit f [] false s := by
  simp only [sendRecord, held, if_true, h]

theorem sendRecord_alone {f : Frame} {u : State} (free : holds s.urgent src = false)
    (h : deliver src { urgent := false, snapshot := true, urgentPending := false } s.clock (removeEntry src s)
      = some (f, u)) : sendRecord src s = transmit f [] false u := by
  simp only [sendRecord, free, Bool.false_eq_true, if_false, h]

end Delivery

/-- Settles O52: each source's report is delivered from the state its entry was removed from. -/
theorem reportsAndSnapshotRecords : Obligations.ReportsAndSnapshotRecords := by
  unfold Obligations.ReportsAndSnapshotRecords
  refine ⟨fun s ⟨src, created⟩ urgent => ⟨fun n o hs found => ?_, fun i x hs found => ?_, fun hs => ?_⟩,
    fun r => ⟨fun h => by simp [OutcomeRec.shown, h], fun h => by simp [OutcomeRec.shown, h, OutcomeShown.nothing]⟩,
    fun s => ⟨fun n o found => ⟨fun held => ?_, fun free => ?_⟩, fun i x found => ⟨fun held => ?_, fun free => ?_⟩,
    fun held => ?_, fun free => ?_⟩⟩
  · obtain rfl : src = .object n := hs
    exact sendEntry_of_deliver (deliver_object (s := removeEntry _ s) found)
  · obtain rfl : src = .output i := hs
    exact sendEntry_of_deliver (deliver_output (s := removeEntry _ s) found)
  · obtain rfl : src = .part := hs
    exact sendEntry_of_deliver rfl
  · exact sendRecord_beside held (by simp [standingRecord, found])
  · exact sendRecord_alone free (deliver_object (s := removeEntry _ s) found)
  · refine ⟨if Config.urgentRecordShowsLost then x.result.lost else 0, ?_, sendRecord_beside held ?_⟩
    · split
      · exact .inl rfl
      · exact .inr rfl
    · simp [standingRecord, found, OutcomeRec.standing, OutcomeShown.nothing]
  · exact sendRecord_alone free (deliver_output (s := removeEntry _ s) found)
  · exact sendRecord_beside held rfl
  · exact sendRecord_alone free rfl

/-! ### The order of a snapshot -/

/-- The first of an ascending list is its least. -/
theorem le_of_head {k : Nat} {l rest : List (Fin k)} {i j : Fin k} (sorted : l.Pairwise (· < ·)) (h : l = i :: rest)
    (hj : j ∈ l) : i ≤ j := by
  subst h
  rcases List.mem_cons.mp hj with rfl | hr
  · exact le_rfl
  · exact le_of_lt (List.rel_of_pairwise_cons sorted hr)

theorem sorted_definedObjects (s : State) : s.definedObjects.Pairwise (· < ·) :=
  (List.pairwise_lt_finRange 128).filter _

theorem sorted_definedOutputs (s : State) : s.definedOutputs.Pairwise (· < ·) :=
  (List.pairwise_lt_finRange 64).filter _

theorem mem_definedObjects {n : ObjId} : n ∈ s.definedObjects ↔ (s.object n).isSome = true := by
  simp [State.definedObjects]

theorem mem_definedOutputs {i : OutId} : i ∈ s.definedOutputs ↔ (s.output i).isSome = true := by
  simp [State.definedOutputs]

/-- The cursor over a list of outputs: the first of them, or what follows them. -/
theorem cursorOutputs_cases (position : SummaryPos) {l : List OutId} (sorted : l.Pairwise (· < ·)) :
    (∃ i ∈ l, cursorOutputs position l = .output i ∧ ∀ j ∈ l, i ≤ j)
      ∨ (l = [] ∧ cursorOutputs position l = if position = .last then .summary else .snapEnd) := by
  cases hl : l with
  | nil => exact .inr ⟨rfl, by cases position <;> rfl⟩
  | cons i rest =>
    subst hl
    exact .inl ⟨i, List.mem_cons_self, rfl, fun j => le_of_head sorted rfl⟩

theorem cursorObjects_cases (s : State) (position : SummaryPos) {l : List ObjId} (sorted : l.Pairwise (· < ·)) :
    (∃ n ∈ l, cursorObjects s position l = .object n ∧ ∀ m ∈ l, n ≤ m)
      ∨ (l = [] ∧ cursorObjects s position l = cursorOutputs position s.definedOutputs) := by
  cases hl : l with
  | nil => exact .inr ⟨rfl, rfl⟩
  | cons n rest =>
    subst hl
    exact .inl ⟨n, List.mem_cons_self, rfl, fun m => le_of_head sorted rfl⟩

/-- The cursor stands at the first defined output, or at what follows the outputs (R104). -/
def AtFirstOutput (s : State) (position : SummaryPos) (c : Cursor) : Prop :=
  (∃ i : OutId, c = .output i ∧ (s.output i).isSome = true ∧ ∀ j : OutId, j < i → s.output j = none)
    ∨ ((∀ i, s.output i = none) ∧ c = if position = .last then .summary else .snapEnd)

theorem atFirstOutput (s : State) (position : SummaryPos) :
    AtFirstOutput s position (cursorOutputs position s.definedOutputs) := by
  rcases cursorOutputs_cases position (sorted_definedOutputs s) with ⟨i, hi, hc, least⟩ | ⟨empty, hc⟩
  · refine .inl ⟨i, hc, mem_definedOutputs.mp hi, fun j hj => ?_⟩
    exact Option.not_isSome_iff_eq_none.mp fun some_ => absurd (least j (mem_definedOutputs.mpr some_)) (not_le.mpr hj)
  · refine .inr ⟨fun i => Option.not_isSome_iff_eq_none.mp fun some_ => ?_, hc⟩
    have := mem_definedOutputs.mpr some_
    rw [empty] at this
    cases this

/-- The cursor stands at the first defined object, or where there is none at the outputs (R104). -/
def AtFirstObject (s : State) (position : SummaryPos) (c : Cursor) : Prop :=
  (∃ n : ObjId, c = .object n ∧ (s.object n).isSome = true ∧ ∀ m : ObjId, m < n → s.object m = none)
    ∨ ((∀ n, s.object n = none) ∧ AtFirstOutput s position c)

theorem atFirstObject (s : State) (position : SummaryPos) :
    AtFirstObject s position (cursorObjects s position s.definedObjects) := by
  rcases cursorObjects_cases s position (sorted_definedObjects s) with ⟨n, hn, hc, least⟩ | ⟨empty, hc⟩
  · refine .inl ⟨n, hc, mem_definedObjects.mp hn, fun m hm => ?_⟩
    exact Option.not_isSome_iff_eq_none.mp fun some_ => absurd (least m (mem_definedObjects.mpr some_)) (not_le.mpr hm)
  · refine .inr ⟨fun n => Option.not_isSome_iff_eq_none.mp fun some_ => ?_, hc ▸ atFirstOutput s position⟩
    have := mem_definedObjects.mpr some_
    rw [empty] at this
    cases this

theorem nextCursor_object (s : State) (position : SummaryPos) (n : ObjId) :
    (∃ m : ObjId, n < m ∧ nextCursor s position (.object n) = .object m ∧ (s.object m).isSome = true
        ∧ ∀ k : ObjId, n < k → k < m → s.object k = none)
      ∨ ((∀ m : ObjId, n < m → s.object m = none) ∧ AtFirstOutput s position (nextCursor s position (.object n))) := by
  have later : ∀ m, m ∈ s.definedObjects.filter (fun k => decide (n < k)) ↔ (s.object m).isSome = true ∧ n < m := by
    simp [mem_definedObjects]
  rcases cursorObjects_cases s position ((sorted_definedObjects s).filter fun k => decide (n < k)) with
    ⟨m, hm, hc, least⟩ | ⟨empty, hc⟩
  · refine .inl ⟨m, ((later m).mp hm).2, hc, ((later m).mp hm).1, fun k above below => ?_⟩
    exact Option.not_isSome_iff_eq_none.mp fun some_ =>
      absurd (least k ((later k).mpr ⟨some_, above⟩)) (not_le.mpr below)
  · refine .inr ⟨fun m above => Option.not_isSome_iff_eq_none.mp fun some_ => ?_, ?_⟩
    · have := (later m).mpr ⟨some_, above⟩
      rw [empty] at this
      cases this
    · have at_ := atFirstOutput s position
      rwa [← hc] at at_

theorem nextCursor_output (s : State) (position : SummaryPos) (i : OutId) :
    (∃ j : OutId, i < j ∧ nextCursor s position (.output i) = .output j ∧ (s.output j).isSome = true
        ∧ ∀ k : OutId, i < k → k < j → s.output k = none)
      ∨ ((∀ j : OutId, i < j → s.output j = none)
          ∧ nextCursor s position (.output i) = if position = .last then .summary else .snapEnd) := by
  have later : ∀ j, j ∈ s.definedOutputs.filter (fun k => decide (i < k)) ↔ (s.output j).isSome = true ∧ i < j := by
    simp [mem_definedOutputs]
  rcases cursorOutputs_cases position ((sorted_definedOutputs s).filter fun k => decide (i < k)) with
    ⟨j, hj, hc, least⟩ | ⟨empty, hc⟩
  · refine .inl ⟨j, ((later j).mp hj).2, hc, ((later j).mp hj).1, fun k above below => ?_⟩
    exact Option.not_isSome_iff_eq_none.mp fun some_ =>
      absurd (least k ((later k).mpr ⟨some_, above⟩)) (not_le.mpr below)
  · refine .inr ⟨fun j above => Option.not_isSome_iff_eq_none.mp fun some_ => ?_, hc⟩
    have := (later j).mpr ⟨some_, above⟩
    rw [empty] at this
    cases this

theorem sendSnapshot_record {p : Snapshot} {src : Source} (h : p.cursor.source = some src) : sendSnapshot p s
    = sendRecord src { s with snapshot := some { p with cursor := nextCursor s p.position p.cursor, sent := p.sent + 1 } } := by
  have advanced : p.advance s = { p with cursor := nextCursor s p.position p.cursor, sent := p.sent + 1 } := by
    simp [Snapshot.advance, h]
  cases hc : p.cursor with
  | snapBegin => simp [hc, Cursor.source] at h
  | snapEnd => simp [hc, Cursor.source] at h
  | _ =>
    simp only [hc, Cursor.source, Option.some.injEq] at h
    subst h
    simp only [sendSnapshot, hc, advanced]

/-- Settles O54: the frame at the cursor, and the first defined number after it. -/
theorem snapshotOrder : Obligations.SnapshotOrder := by
  unfold Obligations.SnapshotOrder
  intro s p
  refine ⟨fun h => by simp [sendSnapshot, h, snapEndFrame, u8], fun h => ?_, fun src h => sendSnapshot_record h,
    fun h => ⟨by rw [h]; rfl, ?_⟩, fun h => ⟨?_, by rw [h]; rfl⟩, nextCursor_object s p.position,
    nextCursor_output s p.position⟩
  · simp [sendSnapshot, h, Snapshot.advance, Cursor.source, snapBeginFrame, u8]
  · have first := atFirstObject s p.position
    rw [h] at first ⊢
    exact first
  · have first := atFirstObject s p.position
    rw [h] at first ⊢
    exact first

/-! ### Layouts -/

theorem be16_value {n : Nat} (h : n ≤ 65535) : ∃ hi lo : Byte, be16 n = [hi, lo] ∧ 256 * hi.toNat + lo.toNat = n := by
  refine ⟨_, _, rfl, ?_⟩
  simp only [BitVec.toNat_ofNat]
  omega

/-- The flags of a STATE REPORT, bit by bit (section 10.7). -/
theorem stateFlags_bits (q d w a b c e : Bool) :
    let flags : Byte := bitIf 0 q ||| bitIf 1 d ||| bitIf 2 w ||| bitIf 3 a ||| (bitIf 4 b ||| bitIf 5 c ||| bitIf 6 e)
    flags.getLsbD 0 = q ∧ flags.getLsbD 1 = d ∧ flags.getLsbD 2 = w ∧ flags.getLsbD 3 = a ∧ flags.getLsbD 4 = b
      ∧ flags.getLsbD 5 = c ∧ flags.getLsbD 6 = e ∧ flags.getLsbD 7 = false := by
  revert q d w a b c e
  decide

/-- The markers alone, bit by bit (section 10.7). -/
theorem marks_bits (m : Marks) : m.byte.getLsbD 4 = m.urgent ∧ m.byte.getLsbD 5 = m.snapshot
    ∧ m.byte.getLsbD 6 = m.urgentPending ∧ m.byte.toNat % 16 = 0 ∧ m.byte.getLsbD 7 = false := by
  obtain ⟨b, c, e⟩ := m
  revert b c e
  decide

/-- Three flags in the low bits of a byte. -/
theorem threeBits (b c e : Bool) :
    let flags : Byte := bitIf 0 b ||| bitIf 1 c ||| bitIf 2 e
    flags.getLsbD 0 = b ∧ flags.getLsbD 1 = c ∧ flags.getLsbD 2 = e ∧ flags.toNat < 8 := by
  revert b c e
  decide

theorem kind_byte (k : Kind) : k.byte = match k with
    | .single _ => 0
    | .pair _ => 1
    | .coded => 2 := by
  cases k <;> rfl

theorem directionByte_eq (d : Option Direction) : directionByte d = match d with
    | some .pickUp => 1
    | some .dropAway => 2
    | none => 0 := by
  rcases d with _ | ⟨_ | _⟩ <;> rfl

theorem lastTime_eq (r : PairRec) : r.lastTime = match r.lastDir with
    | some .pickUp => r.lastPickUp
    | some .dropAway => r.lastDropAway
    | none => 0 := by
  unfold PairRec.lastTime
  rcases r.lastDir with _ | ⟨_ | _⟩ <;> rfl

theorem state_byte (st : OutState) : st.byte = stateCode st := by cases st <;> rfl

theorem outcomeByte_eq (x : Option ProofOutcome) : outcomeByte x = outcomeCode x := by
  rcases x with _ | x
  · rfl
  · cases x <;> rfl

theorem kindByte_eq (k : Option CmdKind) : kindByte k = commandCode k := by
  rcases k with _ | k
  · rfl
  · cases k <;> rfl

theorem frames_nil {a : Answer} (h : a.data = []) :
    a.frames = ({ type := 0x86, body := [a.echo, a.code.byte] }, []) := by
  unfold Answer.frames
  rw [h]
  rfl

theorem frames_one {a : Answer} {d : List Byte} (h : a.data = [d]) :
    a.frames = ({ type := 0x86, body := [a.echo, a.code.byte] ++ d }, []) := by
  unfold Answer.frames
  rw [h]
  rfl

/-- Part k of a long answer, counted from 0 (R162). -/
def partFrame (a : Answer) (k : Nat) (d : List Byte) : Frame :=
  { type := 0x86, body := [a.echo, a.code.byte, BitVec.ofNat 8 (k + 1), BitVec.ofNat 8 a.data.length] ++ d }

theorem frames_parts {a : Answer} (h : 2 ≤ a.data.length) :
    a.frames.1 :: a.frames.2 = a.data.mapIdx (partFrame a) := by
  unfold Answer.frames partFrame
  match hd : a.data, h with
  | d :: e :: ds, _ => simp [answerType, u8, List.mapIdx_cons]

/-- The framing of an answer, by how many parts its data has (R161, R162). -/
theorem frames_layout (a : Answer) :
    (a.data = [] → a.frames = ({ type := 0x86, body := [a.echo, a.code.byte] }, []))
    ∧ (∀ d, a.data = [d] → a.frames = ({ type := 0x86, body := [a.echo, a.code.byte] ++ d }, []))
    ∧ (2 ≤ a.data.length → (a.frames.1 :: a.frames.2).length = a.data.length
        ∧ ∀ k d, a.data[k]? = some d → (a.frames.1 :: a.frames.2)[k]? = some (partFrame a k d)) := by
  refine ⟨frames_nil, fun d => frames_one, fun h => ?_⟩
  rw [frames_parts h]
  refine ⟨List.length_mapIdx, fun k d hd => ?_⟩
  rw [List.getElem?_mapIdx, hd]
  rfl

/-- Settles O53: each layout read off its definition, the flags and sets bit by bit. -/
theorem indicationMessageLayouts : Obligations.IndicationMessageLayouts := by
  unfold Obligations.IndicationMessageLayouts
  refine ⟨fun n => be16_value, fun t => ⟨_, _, _, _, rfl, Replies.be32_append t⟩, fun v => by cases v <;> rfl,
    fun n o events m entry => ?_, fun i x readback shown m entry => ?_, fun s events m entry => ?_, fun a => ?_⟩
  · obtain ⟨b0, b1, b2, b3, b4, b5, b6, b7⟩ := stateFlags_bits o.quarantined (decide (o.admission = .suspended)) o.degraded
      (decide (o.evaluated = .shown .unproven)) m.urgent m.snapshot m.urgentPending
    refine ⟨rfl, rfl, rfl, rfl, ?_, rfl, ⟨_, rfl, b0, ?_, b2, ?_, b4, b5, b6, b7⟩, rfl, rfl, rfl, rfl, ?_, ?_, ?_, rfl, rfl⟩
    · exact congrArg some (kind_byte _)
    · exact (Bool.eq_iff_iff.mp b1).trans decide_eq_true_iff
    · exact (Bool.eq_iff_iff.mp b3).trans decide_eq_true_iff
    · exact congrArg be16 (lastTime_eq _)
    · exact congrArg some (directionByte_eq _)
    · rfl
  · obtain ⟨b4, b5, b6, low, b7⟩ := marks_bits m
    refine ⟨rfl, rfl, rfl, rfl, congrArg some (state_byte _), rfl, congrArg some (outcomeByte_eq _),
      congrArg some (kindByte_eq _), rfl, rfl, rfl, ⟨_, rfl, b4, b5, b6, low, b7⟩, rfl⟩
  · obtain ⟨b4, b5, b6, low, b7⟩ := marks_bits m
    obtain ⟨e0, e1, e2, few⟩ := threeBits events.deskSilence events.imageStored events.imageFailed
    obtain ⟨h1, l1, bytes1, value1⟩ := Replies.be16_set s.refFaultSet
    obtain ⟨h2, l2, bytes2, value2⟩ := Replies.be16_set events.refFault
    obtain ⟨h3, l3, bytes3, value3⟩ := Replies.be16_set events.refRestored
    refine ⟨rfl, rfl, ?_, ?_, ⟨h1, l1, bytes1, fun g => ?_⟩, ⟨h2, l2, bytes2, value2⟩, ⟨h3, l3, bytes3, value3⟩,
      ⟨_, rfl, e0, e1, e2, few⟩, rfl, rfl, ⟨_, rfl, b4, b5, b6, low, b7⟩, rfl⟩
    · cases hp : s.partState <;> simp [partReport, hp, PartState.byte]
    · cases hi : s.imageStatus <;> simp [partReport, hi, ImageStatus.byte]
    · rw [value1]
      exact Replies.refFaultSet_getLsbD s g
  · obtain ⟨echo, code, data⟩ := a
    cases code <;> exact frames_layout _

end Sys2Proof.Proofs.Sending
end

section
/-! The sweeps over a table: the chatter boundary over the objects and Release All over the outputs, with the entries they
request in ascending number. -/

namespace Sys2Proof.Proofs.Sweeps

open Sys2Proof.Machine Sys2Proof.Safety Sys2Proof.Laws Sys2Proof.Proofs.Outcomes Sys2Proof.Proofs.Replies

variable {s t u v : State} {i : OutId} {x : Output}

/-! ### Requests and the queues alone -/

/-- What a request reads and writes is the same: the two queues and the present count. -/
structure SameQueues (s t : State) : Prop where
  urgent : t.urgent = s.urgent
  routine : t.routine = s.routine
  clock : t.clock = s.clock

theorem SameQueues.refl (s : State) : SameQueues s s := ⟨rfl, rfl, rfl⟩

theorem SameQueues.trans (h : SameQueues s t) (k : SameQueues t u) : SameQueues s u :=
  ⟨k.urgent.trans h.urgent, k.routine.trans h.routine, k.clock.trans h.clock⟩

theorem sameQueues_request (h : SameQueues s t) (src : Source) (c : ReportClass) :
    SameQueues (request src c s) (request src c t) := by
  obtain ⟨hu, hr, hc⟩ := h
  unfold request
  rw [hu, hr, hc]
  split
  · exact ⟨hu, hr, hc⟩
  · cases entryOf s.routine src <;> cases c <;> constructor <;> simp [hu, hr, hc]

/-- A source asks for an entry of a class, or for none. -/
def ask (src : Source) (c : Option ReportClass) (s : State) : State :=
  match c with
  | some c => request src c s
  | none => s

theorem sameQueues_ask (h : SameQueues s t) (src : Source) (c : Option ReportClass) :
    SameQueues (ask src c s) (ask src c t) := by
  cases c with
  | none => exact h
  | some c => exact sameQueues_request h src c

theorem holds_ask_other {src k : Source} (h : k ≠ src) (c : Option ReportClass) (s : State) :
    HoldsKept k s (ask src c s) := by
  cases c with
  | none => exact .refl k s
  | some c => exact request_other h c s

/-! ### The requests of a sweep -/

section Asking

variable {k : Nat} (src : Fin k → Source) (wish : Fin k → Option ReportClass)

/-- Each place of a list asks in turn. -/
def askEach (l : List (Fin k)) (s : State) : State := l.foldl (fun u i => ask (src i) (wish i) u) s

variable {src wish}

theorem sameQueues_askEach {l : List (Fin k)} (h : SameQueues s t) :
    SameQueues (askEach src wish l s) (askEach src wish l t) := by
  induction l generalizing s t with
  | nil => exact h
  | cons i l ih => exact ih (sameQueues_ask h (src i) (wish i))

theorem askEach_congr {wish' : Fin k → Option ReportClass} {l : List (Fin k)} (h : ∀ i ∈ l, wish i = wish' i)
    (s : State) : askEach src wish l s = askEach src wish' l s := by
  induction l generalizing s with
  | nil => rfl
  | cons i l ih =>
    change askEach src wish l (ask (src i) (wish i) s) = askEach src wish' l (ask (src i) (wish' i) s)
    rw [h i List.mem_cons_self, ih fun j hj => h j (List.mem_cons_of_mem i hj)]

theorem holds_askEach_other {l : List (Fin k)} {x : Source} (h : ∀ i ∈ l, x = src i → wish i = none) (s : State) :
    HoldsKept x s (askEach src wish l s) := by
  induction l generalizing s with
  | nil => exact .refl x s
  | cons i l ih =>
    refine HoldsKept.trans ?_ (ih (fun j hj => h j (List.mem_cons_of_mem i hj)) _)
    by_cases same : x = src i
    · change HoldsKept x s (ask (src i) (wish i) s)
      rw [h i List.mem_cons_self same]
      exact .refl x s
    · exact holds_ask_other same _ s

/-- The source holds an entry, in the urgent queue if the class is urgent. -/
def Held (x : Source) (c : ReportClass) (s : State) : Prop :=
  (holds s.urgent x || holds s.routine x) = true ∧ (c = .urgent → holds s.urgent x = true)

theorem Held.ask {x : Source} {c : ReportClass} (h : Held x c s) (y : Source) (d : Option ReportClass) :
    Held x c (ask y d s) := by
  cases d with
  | none => exact h
  | some d =>
    by_cases same : x = y
    · subst same
      refine ⟨(request_self x d s).1, fun hc => ?_⟩
      change holds (request x d s).urgent x = true
      rw [request_of_urgent d (h.2 hc)]
      exact h.2 hc
    · obtain ⟨hu, hr⟩ := request_other same d s
      exact ⟨by change (holds (request y d s).urgent x || holds (request y d s).routine x) = true; rw [hu, hr]; exact h.1,
        fun hc => hu.trans (h.2 hc)⟩

theorem Held.askEach {l : List (Fin k)} {x : Source} {c : ReportClass} (h : Held x c s) :
    Held x c (askEach src wish l s) := by
  induction l generalizing s with
  | nil => exact h
  | cons i l ih => exact ih (h.ask (src i) (wish i))

theorem held_askEach {l : List (Fin k)} {i : Fin k} {c : ReportClass} (hi : i ∈ l) (hc : wish i = some c) (s : State) :
    Held (src i) c (askEach src wish l s) := by
  induction l generalizing s with
  | nil => cases hi
  | cons j l ih =>
    by_cases same : i = j
    · subst same
      refine Held.askEach (l := l) (s := ask (src i) (wish i) s) ?_
      rw [hc]
      exact request_self _ _ _
    · exact ih ((List.mem_cons.mp hi).resolve_left same) _

end Asking

/-! ### A sweep -/

/-- A step at each place of a table that changes that place alone and leaves what it reads outside the table. -/
structure Sweep {k : Nat} {β : Type} (f : State → Fin k → State) (place : State → Fin k → β)
    (fixed : State → State → Prop) : Prop where
  apart : ∀ u i j, j ≠ i → place (f u i) j = place u j
  still : ∀ u i, fixed u (f u i)
  same : ∀ u, fixed u u
  trans : ∀ u v w, fixed u v → fixed v w → fixed u w

/-- A sweep whose step asks for at most one entry, at its own place. -/
structure AskingSweep {k : Nat} {β : Type} (f : State → Fin k → State) (src : Fin k → Source)
    (wish : State → Fin k → Option ReportClass) (place : State → Fin k → β) (fixed : State → State → Prop) : Prop
    extends Sweep f place fixed where
  asks : ∀ u i, SameQueues (ask (src i) (wish u i) u) (f u i)
  reads : ∀ u v j, place u j = place v j → wish u j = wish v j

section Swept

variable {k : Nat} {β : Type} {f : State → Fin k → State} {src : Fin k → Source}
  {wish : State → Fin k → Option ReportClass} {place : State → Fin k → β} {fixed : State → State → Prop}

/-- The places not on the list stand. -/
theorem Sweep.place_apart (h : Sweep f place fixed) {l : List (Fin k)} {i : Fin k} (hi : i ∉ l) (s : State) :
    place (l.foldl f s) i = place s i := by
  induction l generalizing s with
  | nil => rfl
  | cons j l ih =>
    rw [List.mem_cons, not_or] at hi
    rw [List.foldl_cons, ih hi.2, h.apart s j i hi.1]

theorem Sweep.fixed_foldl (h : Sweep f place fixed) (l : List (Fin k)) (s : State) : fixed s (l.foldl f s) := by
  induction l generalizing s with
  | nil => exact h.same s
  | cons j l ih => exact h.trans _ _ _ (h.still s j) (ih _)

/-- A place on the list is left as its own step leaves it, taken from a state in which it stood as at the start. -/
theorem Sweep.place_swept (h : Sweep f place fixed) {l : List (Fin k)} (distinct : l.Nodup) {i : Fin k}
    (hi : i ∈ l) (s : State) :
    ∃ u, fixed s u ∧ place u i = place s i ∧ place (l.foldl f s) i = place (f u i) i := by
  induction l generalizing s with
  | nil => cases hi
  | cons j l ih =>
    rw [List.nodup_cons] at distinct
    rw [List.foldl_cons]
    by_cases same : i = j
    · subst same
      exact ⟨s, h.same s, rfl, h.place_apart distinct.1 _⟩
    · obtain ⟨u, hu, hp, hl⟩ := ih distinct.2 ((List.mem_cons.mp hi).resolve_left same) (f s j)
      exact ⟨u, h.trans _ _ _ (h.still s j) hu, hp.trans (h.apart s j i same), hl⟩

/-- The queues are those the wishes at the start leave, in the order of the list. -/
theorem AskingSweep.queues (h : AskingSweep f src wish place fixed) {l : List (Fin k)} (distinct : l.Nodup) (s : State) :
    SameQueues (askEach src (wish s) l s) (l.foldl f s) := by
  induction l generalizing s with
  | nil => exact .refl s
  | cons j l ih =>
    rw [List.nodup_cons] at distinct
    have rest := ih distinct.2 (f s j)
    have wishes : ∀ i ∈ l, wish (f s j) i = wish s i := fun i hi =>
      h.reads _ _ i (h.apart s j i fun he => distinct.1 (he ▸ hi))
    rw [askEach_congr wishes] at rest
    exact (sameQueues_askEach (l := l) (h.asks s j)).trans rest

end Swept

/-! ### The chatter boundary -/

/-- The limit in force once a staged one is applied (R86). -/
def limitAt (o : Obj) : Nat := o.staged.chatter.getD o.cfg.chatterLimit

/-- The object is released at the boundary (R86). -/
abbrev Releases (o : Obj) : Prop := o.quarantined = true ∧ (limitAt o = 0 ∨ o.windowCount ≤ limitAt o / 2)

/-- The object with its staged limit applied and its count begun again (R86). -/
def counted (o : Obj) : Obj :=
  { o with cfg := { o.cfg with chatterLimit := limitAt o }, staged := { o.staged with chatter := none },
           windowCount := 0 }

theorem applyChatter_eq (o : Obj) : o.applyChatter = { o with
    cfg := { o.cfg with chatterLimit := limitAt o }, staged := { o.staged with chatter := none } } := by
  unfold Obj.applyChatter limitAt
  cases h : o.staged.chatter with
  | none =>
    have same : { o.staged with chatter := none } = o.staged := by rw [← h]
    rw [Option.getD_none, same]
  | some l => rfl

theorem releasable_iff (o : Obj) : o.applyChatter.releasable = true ↔ Releases o := by
  rw [applyChatter_eq]
  simp [Obj.releasable, Releases]

/-- The class of the entry a released object asks for (R87). -/
def releaseClass (o : Obj) : ReportClass :=
  if o.shown = o.reported then .routine else classInto o.cfg.urgent o.shown

theorem boundaryStep_held {o : Obj} (h : ¬ Releases o) :
    boundaryStep o = { obj := counted o, reason := none, change := none } := by
  have not : o.applyChatter.releasable = false := Bool.eq_false_iff.mpr (mt (releasable_iff o).mp h)
  simp only [boundaryStep, not, Bool.false_eq_true, if_false]
  rw [applyChatter_eq]
  rfl

theorem joinReason_routine (c : ReportClass) : joinReason (some .routine) (some c) = some c := by cases c <;> rfl

theorem release_eq (o : Obj) : o.begin.release =
    { obj := { o with quarantined := false, events := o.events ||| Event.quarantineOff.bit, reported := o.shown }
      reason := some (releaseClass o)
      change := none } := by
  unfold ObjStep.release releaseClass
  by_cases same : o.shown = o.reported
  · simp only [Obj.begin, same, if_true]
    rfl
  · simp only [Obj.begin, same, if_false, ObjStep.follow]
    refine ObjStep.mk.injEq .. |>.mpr ⟨rfl, joinReason_routine _, rfl⟩

theorem boundaryStep_released {o : Obj} (h : Releases o) : boundaryStep o =
    { obj := { counted o with quarantined := false, events := o.events ||| Event.quarantineOff.bit, reported := o.shown }
      reason := some (releaseClass o)
      change := none } := by
  simp only [boundaryStep, (releasable_iff o).mpr h, if_true, release_eq]
  rw [applyChatter_eq]
  rfl

/-- The entry the boundary asks for at an object's place. -/
def boundaryWish (s : State) (n : ObjId) : Option ReportClass := (s.object n).bind fun o => (boundaryStep o).reason

theorem boundaryStep_change (o : Obj) : (boundaryStep o).change = none := by
  by_cases h : Releases o
  · rw [boundaryStep_released h]
  · rw [boundaryStep_held h]

theorem boundaryAt_defined {n : ObjId} {o : Obj} (found : s.object n = some o) :
    boundaryAt s n = ask (.object n) (boundaryStep o).reason (s.setObject n (boundaryStep o).obj) := by
  have step : boundaryAt s n = applyStep n (boundaryStep o) s := by simp [boundaryAt, found]
  rw [step]
  cases hr : (boundaryStep o).reason with
  | none => rw [applyStep_silent hr, applied_unchanged (boundaryStep_change o)]; rfl
  | some c => rw [applyStep_reason hr, applied_unchanged (boundaryStep_change o)]; rfl

theorem boundaryAt_undefined {n : ObjId} (h : s.object n = none) : boundaryAt s n = s := by
  simp [boundaryAt, h]

/-- Nothing but the objects and the queues differs. -/
def ObjectsAndQueues (s t : State) : Prop :=
  t = { s with objects := t.objects, urgent := t.urgent, routine := t.routine }

theorem objectsAndQueues_ask (src : Source) (c : Option ReportClass) (s : State) : ObjectsAndQueues s (ask src c s) := by
  cases c with
  | none => rfl
  | some c =>
    obtain ⟨_, _, h⟩ := request_queuesOnly src c s
    change request src c s = { s with objects := (request src c s).objects, urgent := (request src c s).urgent, routine := (request src c s).routine }
    rw [h]

theorem objectsAndQueues_trans (h : ObjectsAndQueues s t) (k : ObjectsAndQueues t u) : ObjectsAndQueues s u := by
  unfold ObjectsAndQueues at *
  rw [k, h]

theorem object_ask (src : Source) (c : Option ReportClass) (s : State) (n : ObjId) :
    (ask src c s).object n = s.object n := by
  cases c with
  | none => rfl
  | some c => exact object_request src c s n

theorem object_boundaryAt (s : State) (n m : ObjId) : (boundaryAt s n).object m
    = if m = n then (s.object n).map fun o => (boundaryStep o).obj else s.object m := by
  cases found : s.object n with
  | none =>
    rw [boundaryAt_undefined found]
    split
    · rename_i same
      rw [same, found]
      rfl
    · rfl
  | some o =>
    rw [boundaryAt_defined found, object_ask, object_setObject]
    rfl

theorem sweep_boundary : AskingSweep boundaryAt Source.object boundaryWish State.object ObjectsAndQueues where
  asks u n := by
    cases found : u.object n with
    | none =>
      rw [boundaryAt_undefined found, boundaryWish, found]
      exact .refl u
    | some o =>
      have stands : SameQueues u (u.setObject n (boundaryStep o).obj) := ⟨rfl, rfl, rfl⟩
      rw [boundaryAt_defined found, boundaryWish, found]
      exact sameQueues_ask stands _ _
  apart u n m h := by rw [object_boundaryAt, if_neg h]
  reads u v n h := by rw [boundaryWish, boundaryWish, h]
  still u n := by
    cases found : u.object n with
    | none => rw [boundaryAt_undefined found]; rfl
    | some o =>
      rw [boundaryAt_defined found]
      exact objectsAndQueues_trans (t := u.setObject n _) rfl (objectsAndQueues_ask _ _ _)
  same _ := rfl
  trans _ _ _ := objectsAndQueues_trans

theorem boundaryWish_eq (s : State) (n : ObjId) : boundaryWish s n = (s.object n).bind fun o =>
    if Releases o then some (releaseClass o) else none := by
  unfold boundaryWish
  refine congrArg _ (funext fun o => ?_)
  split
  · rw [boundaryStep_released ‹_›]
  · rw [boundaryStep_held ‹_›]

/-- The requests of a sweep, as those of the places that ask. -/
theorem askEach_filterMap {k : Nat} (src : Fin k → Source) (wish : Fin k → Option ReportClass) (l : List (Fin k))
    (s : State) : askEach src wish l s
      = (l.filterMap fun i => (wish i).map fun c => (i, c)).foldl (fun u a => request (src a.1) a.2 u) s := by
  rw [List.foldl_filterMap]
  refine congrArg (fun g => l.foldl g s) (funext fun u => funext fun i => ?_)
  cases wish i <;> rfl

theorem boundaryWish_released {n : ObjId} {o : Obj} (found : s.object n = some o) (h : Releases o) :
    boundaryWish s n = some (releaseClass o) := by
  rw [boundaryWish_eq, found]
  exact if_pos h

theorem boundaryWish_held {n : ObjId} {o : Obj} (found : s.object n = some o) (h : ¬ Releases o) :
    boundaryWish s n = none := by
  rw [boundaryWish_eq, found]
  exact if_neg h

/-- The state in which a boundary takes the objects one by one: the next window is open. -/
def opened (w : Window) (s : State) : State :=
  { s with window := some { start := w.next, next := after w.next (s.timing.windowS * 10000) } }

theorem boundary_eq {w : Window} (h : s.window = some w) :
    boundary s = (List.finRange 128).foldl boundaryAt (opened w s) := by
  rw [boundary, h]
  rfl

theorem object_boundary {w : Window} (h : s.window = some w) (n : ObjId) :
    (boundary s).object n = (s.object n).map fun o => (boundaryStep o).obj := by
  obtain ⟨u, -, before, swept⟩ := sweep_boundary.place_swept (List.nodup_finRange 128) (List.mem_finRange n) (opened w s)
  rw [boundary_eq h, swept, object_boundaryAt, if_pos rfl, before]
  rfl

/-- The queues after a boundary are those the released objects leave. -/
theorem queues_boundary {w : Window} (h : s.window = some w) :
    SameQueues (askEach .object (boundaryWish s) (List.finRange 128) s) (boundary s) := by
  have start : SameQueues s (opened w s) := ⟨rfl, rfl, rfl⟩
  rw [boundary_eq h]
  exact (sameQueues_askEach start).trans (sweep_boundary.queues (List.nodup_finRange 128) (opened w s))

/-- Settles O24: the boundary is a sweep over the objects in the state with the next window open. -/
theorem chatterBoundary : Obligations.ChatterBoundary := by
  unfold Obligations.ChatterBoundary
  intro s w awake running window due
  have queues := queues_boundary window
  refine ⟨boundary s, Steps.whenDue_due _ awake ((boundaryDue_iff s).mpr ⟨running, w, window, due⟩), ?_, ?_,
    fun n undefined_ => ?_, fun n o found => ⟨fun kept => ⟨?_, ?_⟩, fun released => ⟨?_, ?_⟩⟩⟩
  · rw [boundary_eq window]
    exact sweep_boundary.fixed_foldl _ (opened w s)
  · rw [askEach_filterMap, funext (boundaryWish_eq s)] at queues
    exact ⟨queues.urgent, queues.routine⟩
  · rw [object_boundary window, undefined_]
    rfl
  · rw [object_boundary window, found, Option.map_some, boundaryStep_held kept]
    rfl
  · have silent : ∀ m ∈ List.finRange 128, Source.object n = .object m → boundaryWish s m = none := fun m _ he =>
      Source.object.inj he ▸ boundaryWish_held found kept
    have same := holds_askEach_other silent s
    rw [queues.urgent, queues.routine]
    exact same
  · rw [object_boundary window, found, Option.map_some, boundaryStep_released released]
    rfl
  · have held := held_askEach (src := Source.object) (List.mem_finRange n) (boundaryWish_released found released) s
    rw [queues.urgent, queues.routine]
    exact ⟨held.1, fun moved urgent => held.2 ((if_neg moved).trans urgent)⟩

/-! ### Releasing every output -/

/-- An output as Release All leaves it, its outcome record aside (R121). -/
def quieted (s : State) (i : OutId) (x : Output) : Output :=
  if x.state.energised = true then { x with state := .off, mismatch := mismatchNow s i false x.mismatch } else x

theorem setOutput_self (found : s.output i = some x) : s.setOutput i x = s := by
  have same : upd s.outputs i (some x) = s.outputs := by
    rw [← found]
    exact Vector.set_getElem_self i.isLt
  rw [State.setOutput, same]

theorem releaseOne_eq (found : s.output i = some x) :
    releaseOne s i = endProof i .abandoned 0 (s.setOutput i (quieted s i x)) := by
  have step : releaseOne s i = endProof i .abandoned 0 (if x.state.energised then enterState i .off s else s) := by
    simp [releaseOne, found]
  rw [step, quieted]
  split
  · rw [enterState_eq found .off nofun]
    rfl
  · rw [setOutput_self found]

theorem releaseOne_undefined (h : s.output i = none) : releaseOne s i = s := by simp [releaseOne, h]

/-- A defined output with a proof in flight. -/
def proving (s : State) (i : OutId) : Bool := (s.output i).isSome && decide ((s.proof i).phase ≠ .none)

/-- The entry Release All asks for at an output's place (R127). -/
def releaseWish (s : State) (i : OutId) : Option ReportClass := if proving s i then some .urgent else none

theorem releaseWish_flying (found : s.output i = some x) (h : (s.proof i).phase ≠ .none) :
    releaseWish s i = some .urgent := by
  simp [releaseWish, proving, found, h]

theorem releaseWish_idle (h : (s.proof i).phase = .none) : releaseWish s i = none := by simp [releaseWish, proving, h]

theorem releaseWish_undefined (h : s.output i = none) : releaseWish s i = none := by simp [releaseWish, proving, h]

/-- Nothing but the outputs, their proofs and the queues differs. -/
def OutputsAndQueues (s t : State) : Prop :=
  t = { s with outputs := t.outputs, proofs := t.proofs, urgent := t.urgent, routine := t.routine }

theorem outputsAndQueues_request (src : Source) (c : ReportClass) (s : State) :
    OutputsAndQueues s (request src c s) := by
  obtain ⟨_, _, h⟩ := request_queuesOnly src c s
  unfold OutputsAndQueues
  rw [h]

theorem OutputsAndQueues.trans (h : OutputsAndQueues s t) (k : OutputsAndQueues t u) : OutputsAndQueues s u := by
  unfold OutputsAndQueues at *
  rw [k, h]

/-- An output and its proof. -/
def outputPlace (s : State) (i : OutId) : Option Output × Proof := (s.output i, s.proof i)

/-- The output and the proof as Release All leaves them where the proof was in flight, the entry not yet asked for. -/
def abandoned (s : State) (i : OutId) (x : Output) : State :=
  ((s.setOutput i (quieted s i x)).setProof i { s.proof i with phase := .none, deadline := none }).setOutput i
    { quieted s i x with result := x.result.post .abandoned (s.proof i) 0 }

theorem sameQueues_abandoned (s : State) (i : OutId) (x : Output) : SameQueues s (abandoned s i x) := ⟨rfl, rfl, rfl⟩

theorem outputsAndQueues_abandoned (s : State) (i : OutId) (x : Output) : OutputsAndQueues s (abandoned s i x) := rfl

theorem releaseOne_flying (found : s.output i = some x) (h : (s.proof i).phase ≠ .none) :
    releaseOne s i = request (.output i) .urgent (abandoned s i x) := by
  have result : (quieted s i x).result = x.result := by
    unfold quieted
    split <;> rfl
  rw [releaseOne_eq found, endProof_eq (s := s.setOutput i _) h (output_setOutput_same s i _), result]
  rfl

theorem releaseOne_idle (found : s.output i = some x) (h : (s.proof i).phase = .none) :
    releaseOne s i = s.setOutput i (quieted s i x) := by
  rw [releaseOne_eq found, endProof_idle (s := s.setOutput i _) h]

theorem outputsAndQueues_releaseOne (s : State) (i : OutId) : OutputsAndQueues s (releaseOne s i) := by
  cases found : s.output i with
  | none => rw [releaseOne_undefined found]; rfl
  | some x =>
    by_cases h : (s.proof i).phase = .none
    · rw [releaseOne_idle found h]
      rfl
    · rw [releaseOne_flying found h]
      exact (outputsAndQueues_abandoned s i x).trans (outputsAndQueues_request _ _ _)

theorem sameQueues_releaseOne (s : State) (i : OutId) :
    SameQueues (ask (.output i) (releaseWish s i) s) (releaseOne s i) := by
  cases found : s.output i with
  | none =>
    rw [releaseOne_undefined found, releaseWish_undefined found]
    exact .refl s
  | some x =>
    by_cases h : (s.proof i).phase = .none
    · rw [releaseOne_idle found h, releaseWish_idle h]
      exact ⟨rfl, rfl, rfl⟩
    · rw [releaseOne_flying found h, releaseWish_flying found h]
      exact sameQueues_request (sameQueues_abandoned s i x) _ _

theorem sweep_release : AskingSweep releaseOne Source.output releaseWish outputPlace OutputsAndQueues where
  asks := sameQueues_releaseOne
  apart u i j h := by
    have kept : Untouched j u (releaseOne u i) := by
      cases found : u.output i with
      | none => rw [releaseOne_undefined found]; exact .refl j u
      | some x =>
        rw [releaseOne_eq found]
        exact (untouched_setOutput h _ u).trans (untouched_endProof h _ _ _)
    exact Prod.ext kept.output kept.proof
  reads u v i h := by
    obtain ⟨output, proof⟩ := Prod.mk.inj h
    rw [releaseWish, releaseWish, proving, proving, output, proof]
  still := outputsAndQueues_releaseOne
  same _ := rfl
  trans _ _ _ := OutputsAndQueues.trans

theorem queues_releaseEvery (s : State) :
    SameQueues (askEach .output (releaseWish s) (List.finRange 64) s) (releaseEvery s) :=
  sweep_release.queues (List.nodup_finRange 64) s

theorem askEach_filter {k : Nat} (src : Fin k → Source) (p : Fin k → Bool) (c : ReportClass) (l : List (Fin k))
    (s : State) : askEach src (fun i => if p i then some c else none) l s
      = (l.filter p).foldl (fun w i => request (src i) c w) s := by
  rw [List.foldl_filter]
  refine congrArg (fun g => l.foldl g s) (funext fun u => funext fun i => ?_)
  split <;> simp [ask, *]

theorem quieted_congr (h : OutputsAndQueues s t) (x : Output) : quieted t i x = quieted s i x := by
  rw [h]
  rfl

/-- An output and its proof after Release All, from a state in which they stood as at the start. -/
theorem place_releaseEvery (s : State) (i : OutId) : ∃ u, OutputsAndQueues s u ∧ u.output i = s.output i
    ∧ u.proof i = s.proof i ∧ (releaseEvery s).output i = (releaseOne u i).output i
    ∧ (releaseEvery s).proof i = (releaseOne u i).proof i := by
  obtain ⟨u, fixed, before, swept⟩ := sweep_release.place_swept (List.nodup_finRange 64) (List.mem_finRange i) s
  obtain ⟨output, proof⟩ := Prod.mk.inj before
  obtain ⟨output', proof'⟩ := Prod.mk.inj swept
  exact ⟨u, fixed, output, proof, output', proof'⟩

theorem releaseEvery_idle (found : s.output i = some x) (h : (s.proof i).phase = .none) :
    (releaseEvery s).output i = some (quieted s i x) ∧ (releaseEvery s).proof i = s.proof i := by
  obtain ⟨u, fixed, output, proof, output', proof'⟩ := place_releaseEvery s i
  rw [output', proof', releaseOne_idle (output.trans found) (by rw [proof, h]), quieted_congr fixed, ← proof]
  exact ⟨output_setOutput_same u i _, rfl⟩

theorem releaseEvery_flying (found : s.output i = some x) (h : (s.proof i).phase ≠ .none) :
    (releaseEvery s).output i
        = some { quieted s i x with result := x.result.post .abandoned (s.proof i) 0 }
      ∧ (releaseEvery s).proof i = { s.proof i with phase := .none, deadline := none } := by
  obtain ⟨u, fixed, output, proof, output', proof'⟩ := place_releaseEvery s i
  rw [output', proof', releaseOne_flying (output.trans found) (by rw [proof]; exact h), output_request, proof_request,
    abandoned, quieted_congr fixed, proof]
  exact ⟨output_setOutput_same _ i _, proof_setProof_same _ i _⟩

theorem releaseEvery_undefined (h : s.output i = none) :
    (releaseEvery s).output i = none ∧ (releaseEvery s).proof i = s.proof i := by
  obtain ⟨u, -, output, proof, output', proof'⟩ := place_releaseEvery s i
  rw [output', proof', releaseOne_undefined (output.trans h), output, proof]
  exact ⟨h, rfl⟩

theorem holds_releaseEvery {src : Source} (h : ∀ i, src = .output i → releaseWish s i = none) :
    HoldsKept src s (releaseEvery s) := by
  have queues := queues_releaseEvery s
  obtain ⟨urgent, routine⟩ := holds_askEach_other (l := List.finRange 64) (fun i _ => h i) s
  exact ⟨by rw [queues.urgent, urgent], by rw [queues.routine, routine]⟩

theorem holds_releaseEvery_flying (found : s.output i = some x) (h : (s.proof i).phase ≠ .none) :
    holds (releaseEvery s).urgent (.output i) = true := by
  rw [(queues_releaseEvery s).urgent]
  exact (held_askEach (src := Source.output) (List.mem_finRange i) (releaseWish_flying found h) s).2 rfl

/-- Settles O41: Release All is a sweep over the outputs, and both the message and the expiry make it. -/
theorem releaseAllAndSilence : Obligations.ReleaseAllAndSilence := by
  unfold Obligations.ReleaseAllAndSilence
  intro s released
  have all : ∀ u, released u (releaseEvery u) := by
    intro u
    refine ⟨sweep_release.fixed_foldl (List.finRange 64) u, ?_, fun src other => ?_, fun i => releaseEvery_undefined,
      fun i x found => ⟨fun idle => ?_, fun flying => ?_⟩⟩
    · have queues := queues_releaseEvery u
      rw [show releaseWish u = fun i => if proving u i then some .urgent else none from rfl, askEach_filter] at queues
      exact ⟨queues.urgent, queues.routine⟩
    · exact holds_releaseEvery fun i he => absurd he (other i)
    · obtain ⟨output, proof⟩ := releaseEvery_idle found idle
      refine ⟨output, proof, holds_releaseEvery fun j he => ?_⟩
      exact Source.output.inj he ▸ releaseWish_idle idle
    · obtain ⟨output, proof⟩ := releaseEvery_flying found flying
      exact ⟨output, proof, holds_releaseEvery_flying found flying⟩
  refine ⟨fun ⟨ready, running⟩ => ?_, fun d awake running deadline due => ?_⟩
  · refine ⟨releaseEvery (received s), answersWith_of (m := msgReleaseAll) ready rfl ?_, all _⟩
    rw [msgReleaseAll, inRunning_pass _ (received_running running)]
    rfl
  · exact ⟨_, all _, Steps.whenDue_due _ awake ((silenceDue_iff s).mpr ⟨running, d, deadline, due⟩)⟩

end Sys2Proof.Proofs.Sweeps
end

section
/-! The commands to single outputs: Pulse Output, Latch Output and Release Output. -/

namespace Sys2Proof.Proofs.Commands

open Sys2Proof.Machine Sys2Proof.Safety Sys2Proof.Laws Sys2Proof.Proofs.Outcomes Sys2Proof.Proofs.Replies

variable {s t : State} {i j : OutId} {x : Output} {num : Byte}

/-! ### What a command reads of the state it is received in -/

@[simp] theorem excluded_received (s : State) (x : Output) : excluded (received s) x = excluded s x := by
  unfold excluded
  congr 1
  funext j
  simp [partnerBlocks]

@[simp] theorem mismatchNow_received (s : State) (i : OutId) (on : Bool) (old : Option Time) :
    mismatchNow (received s) i on old = mismatchNow s i on old := by
  simp [mismatchNow]

theorem proof_setOutput_received (s : State) (i j : OutId) (x : Output) :
    ((received s).setOutput i x).proof j = s.proof j := by
  change (received s).proof j = s.proof j
  simp

theorem excluded_of (h : ExclusionFails s x) : excluded s x = true := (excluded_iff s x).mpr h

theorem admitted_of (h : ¬ ExclusionFails s x) : excluded s x = false :=
  Bool.eq_false_iff.mpr (mt (excluded_iff s x).mp h)

/-- The output a command addresses, in the state the command is received in. -/
theorem found_received (hi : i.val = num.toNat) (found : s.output i = some x) :
    (received s).findOutput num = some (i, x) := by
  rw [findOutput_received, findOutput_some hi found]

/-! ### The outputs commands leave -/

/-- An output entering a commanded state, its staged lengths applied first (R112, R113, R122). -/
def commanded (s : State) (i : OutId) (st : OutState) (x : Output) : Output :=
  { x with cfg := appliedLengths x, stagedPulse := none, stagedProving := none, state := st,
           mismatch := mismatchNow s i st.energised x.mismatch }

theorem applyStagedAt_eq (found : s.output i = some x) : applyStagedAt i s = s.setOutput i x.applyStaged := by
  simp [applyStagedAt, found]

theorem enterState_applyStagedAt (found : s.output i = some x) (st : OutState) (ok : st ≠ .faulted) :
    enterState i st (applyStagedAt i s) = s.setOutput i (commanded s i st x) := by
  rw [applyStagedAt_eq found, enterState_eq (s := s.setOutput i _) (output_setOutput_same s i _) st ok,
    setOutput_setOutput]
  rfl

theorem pulse_eq (found : s.output i = some x) : pulse i s = startProof i .pulse
    (s.setOutput i (commanded s i (.pulsing (after s.clock ((appliedLengths x).pulseMs * 10))) x)) := by
  have length : (applyStagedAt i s).pulseUnits i = (appliedLengths x).pulseMs * 10 := by
    simp [applyStagedAt_eq found, State.pulseUnits, msUnits, Output.applyStaged, appliedLengths]
  have clock : (applyStagedAt i s).clock = s.clock := by rw [applyStagedAt_eq found]; rfl
  rw [pulse, pulseTo, length, clock, enterState_applyStagedAt found (.pulsing _) nofun]

theorem latch_off (found : s.output i = some x) (h : x.state = .off) :
    latch i x s = startProof i .latch (s.setOutput i (commanded s i .latched x)) := by
  rw [latch, h]
  exact congrArg (startProof i .latch) (enterState_applyStagedAt found _ nofun)

theorem latch_pulsing {e : Time} (found : s.output i = some x) (h : x.state = .pulsing e) :
    latch i x s = proofPulseEnd i (s.setOutput i (commanded s i .latched x)) := by
  rw [latch, h]
  exact congrArg (proofPulseEnd i) (enterState_applyStagedAt found _ nofun)

theorem latch_latched (h : x.state = .latched) : latch i x s = s := by rw [latch, h]

/-! ### Pulse Output -/

section Pulse

theorem msgPulseOutput_undefined (running : s.partState = .running) (h : s.findOutput num = none) :
    msgPulseOutput [num] s = refuse .noSuch s := by
  rw [msgPulseOutput, inRunning_pass _ running, h]

variable (running : s.partState = .running) (found : s.findOutput num = some (i, x))
include running found

theorem msgPulseOutput_latched (h : x.state = .latched) : msgPulseOutput [num] s = refuse .wrongState s := by
  rw [msgPulseOutput, inRunning_pass _ running, found]
  exact if_pos h

theorem msgPulseOutput_faulted (h : x.state = .faulted) : msgPulseOutput [num] s = refuse .driverFaulted s := by
  rw [msgPulseOutput, inRunning_pass _ running, found]
  simp [h]

theorem msgPulseOutput_excluded (latched : x.state ≠ .latched) (faulted : x.state ≠ .faulted)
    (h : excluded s x = true) : msgPulseOutput [num] s = refuse .excluded s := by
  rw [msgPulseOutput, inRunning_pass _ running, found]
  simp [latched, faulted, h]

theorem msgPulseOutput_accepted (latched : x.state ≠ .latched) (faulted : x.state ≠ .faulted)
    (h : excluded s x = false) : msgPulseOutput [num] s = done .accepted (pulse i s) := by
  rw [msgPulseOutput, inRunning_pass _ running, found]
  simp [latched, faulted, h]

end Pulse

/-- Settles O37: the tests of the handler in their order, then the state the pulse enters. -/
theorem pulseOutput : Obligations.PulseOutput := by
  unfold Obligations.PulseOutput
  intro s num ⟨ready, isRunning⟩
  have running := received_running isRunning
  refine ⟨fun undefined_ => ?_, fun i x hi found => ?_⟩
  · exact refuses_of (m := msgPulseOutput) ready rfl
      (msgPulseOutput_undefined running ((findOutput_received num).trans (findOutput_none undefined_)))
  have addressed := found_received hi found
  refine ⟨fun latched => ?_, fun faulted => ?_, fun latched faulted fails => ?_, fun latched faulted passes => ?_⟩
  · exact refuses_of (m := msgPulseOutput) ready rfl (msgPulseOutput_latched running addressed latched)
  · exact refuses_of (m := msgPulseOutput) ready rfl (msgPulseOutput_faulted running addressed faulted)
  · exact refuses_of (m := msgPulseOutput) ready rfl (msgPulseOutput_excluded running addressed latched faulted
      ((excluded_received s x).trans (excluded_of fails)))
  · refine answersWith_of (m := msgPulseOutput) ready rfl ?_
    rw [msgPulseOutput_accepted running addressed latched faulted ((excluded_received s x).trans (admitted_of passes)),
      pulse_eq (s := received s) (by simpa using found), commanded, mismatchNow_received, received_clock]
    rfl

/-! ### Latch Output -/

section Latch

theorem msgLatchOutput_undefined (running : s.partState = .running) (h : s.findOutput num = none) :
    msgLatchOutput [num] s = refuse .noSuch s := by
  rw [msgLatchOutput, inRunning_pass _ running, h]

variable (running : s.partState = .running) (found : s.findOutput num = some (i, x))
include running found

theorem msgLatchOutput_pulseOnly (h : x.cfg.mode = .pulseOnly) : msgLatchOutput [num] s = refuse .badForm s := by
  rw [msgLatchOutput, inRunning_pass _ running, found]
  exact if_pos h

variable (latchable : x.cfg.mode = .latchable)
include latchable

theorem msgLatchOutput_faulted (h : x.state = .faulted) : msgLatchOutput [num] s = refuse .driverFaulted s := by
  rw [msgLatchOutput, inRunning_pass _ running, found]
  simp [latchable, h]

theorem msgLatchOutput_excluded (faulted : x.state ≠ .faulted) (h : excluded s x = true) :
    msgLatchOutput [num] s = refuse .excluded s := by
  rw [msgLatchOutput, inRunning_pass _ running, found]
  simp [latchable, faulted, h]

theorem msgLatchOutput_accepted (faulted : x.state ≠ .faulted) (h : excluded s x = false) :
    msgLatchOutput [num] s = done .accepted (latch i x s) := by
  rw [msgLatchOutput, inRunning_pass _ running, found]
  simp [latchable, faulted, h]

end Latch

theorem commanded_received (s : State) (i : OutId) (st : OutState) (x : Output) :
    commanded (received s) i st x = commanded s i st x := by
  rw [commanded, mismatchNow_received, commanded]

/-- Settles O38: the tests of the handler in their order, then the state the latch enters and the proof it starts or
ends. -/
theorem latchOutput : Obligations.LatchOutput := by
  unfold Obligations.LatchOutput
  intro s num ⟨ready, isRunning⟩
  have running := received_running isRunning
  refine ⟨fun undefined_ => ?_, fun i x hi found => ?_⟩
  · exact refuses_of (m := msgLatchOutput) ready rfl
      (msgLatchOutput_undefined running ((findOutput_received num).trans (findOutput_none undefined_)))
  have addressed := found_received hi found
  have found' : (received s).output i = some x := by simpa using found
  refine ⟨fun pulseOnly => ?_, fun latchable faulted => ?_, fun latchable faulted fails => ?_,
    fun latchable faulted passes => ?_⟩
  · exact refuses_of (m := msgLatchOutput) ready rfl (msgLatchOutput_pulseOnly running addressed pulseOnly)
  · exact refuses_of (m := msgLatchOutput) ready rfl (msgLatchOutput_faulted running addressed latchable faulted)
  · exact refuses_of (m := msgLatchOutput) ready rfl (msgLatchOutput_excluded running addressed latchable faulted
      ((excluded_received s x).trans (excluded_of fails)))
  have accepted := msgLatchOutput_accepted running addressed latchable faulted
    ((excluded_received s x).trans (admitted_of passes))
  refine ⟨fun off => ?_, fun e pulsing awaiting => ?_, fun e pulsing other => ?_, fun latched => ?_⟩
  · rw [latch_off found' off, commanded_received] at accepted
    exact answersWith_of (m := msgLatchOutput) ready rfl accepted
  · rw [latch_pulsing found' pulsing, commanded_received,
      proofPulseEnd_awaiting (s := (received s).setOutput i _) (by rwa [proof_setOutput_received])] at accepted
    exact answersWith_of (m := msgLatchOutput) ready rfl accepted
  · rw [latch_pulsing found' pulsing, commanded_received,
      proofPulseEnd_other (s := (received s).setOutput i _) (by rwa [proof_setOutput_received])] at accepted
    exact answersWith_of (m := msgLatchOutput) ready rfl accepted
  · rw [latch_latched latched] at accepted
    exact answersWith_of (m := msgLatchOutput) ready rfl accepted

/-! ### Release Output -/

/-- An output OFF, its driver taken against the readback (R113, R122). -/
def turnedOff (s : State) (i : OutId) (x : Output) : Output :=
  { x with state := .off, mismatch := mismatchNow s i false x.mismatch }

theorem turnedOff_received (s : State) (i : OutId) (x : Output) : turnedOff (received s) i x = turnedOff s i x := by
  rw [turnedOff, mismatchNow_received, turnedOff]

theorem enterState_off (found : s.output i = some x) : enterState i .off s = s.setOutput i (turnedOff s i x) :=
  enterState_eq found .off nofun

theorem release_off (h : x.state = .off) : release i x s = done .accepted s := by rw [release, h]

theorem release_pulsing {e : Time} (found : s.output i = some x) (h : x.state = .pulsing e) :
    release i x s = done .accepted (proofPulseEnd i (s.setOutput i (turnedOff s i x))) := by
  rw [release, h]
  exact congrArg (done .accepted) (endPulse_eq found)

theorem release_latched (found : s.output i = some x) (h : x.state = .latched) :
    release i x s = done .accepted (s.setOutput i (turnedOff s i x)) := by
  rw [release, h]
  exact congrArg (done .accepted) (enterState_off found)

theorem release_faulted (found : s.output i = some x) (h : x.state = .faulted) (dark : s.readbackOn i = false) :
    release i x s = done .accepted (request (.output i) .routine (s.setOutput i (turnedOff s i x))) := by
  rw [release, h, enterState_off found]
  simp [dark]

theorem release_stuck (h : x.state = .faulted) (lit : s.readbackOn i = true) :
    release i x s = refuse .driverFaulted s := by
  rw [release, h]
  exact if_pos lit

theorem msgReleaseOutput_undefined (running : s.partState = .running) (h : s.findOutput num = none) :
    msgReleaseOutput [num] s = refuse .noSuch s := by
  rw [msgReleaseOutput, inRunning_pass _ running, h]

theorem msgReleaseOutput_defined (running : s.partState = .running) (found : s.findOutput num = some (i, x)) :
    msgReleaseOutput [num] s = release i x s := by
  rw [msgReleaseOutput, inRunning_pass _ running, found]

/-- Settles O39: one case for each state of the output. -/
theorem releaseOutput : Obligations.ReleaseOutput := by
  unfold Obligations.ReleaseOutput
  intro s num ⟨ready, isRunning⟩
  have running := received_running isRunning
  refine ⟨fun undefined_ => ?_, fun i x hi found => ?_⟩
  · exact refuses_of (m := msgReleaseOutput) ready rfl
      (msgReleaseOutput_undefined running ((findOutput_received num).trans (findOutput_none undefined_)))
  have handled := msgReleaseOutput_defined running (found_received hi found)
  have found' : (received s).output i = some x := by simpa using found
  refine ⟨fun off => ?_, fun e pulsing awaiting => ?_, fun e pulsing other => ?_, fun latched => ?_,
    fun faulted dark => ?_, fun faulted lit => ?_⟩
  · rw [release_off off] at handled
    exact answersWith_of (m := msgReleaseOutput) ready rfl handled
  · rw [release_pulsing found' pulsing, turnedOff_received,
      proofPulseEnd_awaiting (s := (received s).setOutput i _) (by rwa [proof_setOutput_received])] at handled
    exact answersWith_of (m := msgReleaseOutput) ready rfl handled
  · rw [release_pulsing found' pulsing, turnedOff_received,
      proofPulseEnd_other (s := (received s).setOutput i _) (by rwa [proof_setOutput_received])] at handled
    exact answersWith_of (m := msgReleaseOutput) ready rfl handled
  · rw [release_latched found' latched, turnedOff_received] at handled
    exact answersWith_of (m := msgReleaseOutput) ready rfl handled
  · rw [release_faulted found' faulted (by simpa using dark), turnedOff_received] at handled
    exact answersWith_of (m := msgReleaseOutput) ready rfl handled
  · rw [release_stuck faulted (by simpa using lit)] at handled
    exact refuses_of (m := msgReleaseOutput) ready rfl handled

end Sys2Proof.Proofs.Commands
end

section
/-! Group Pulse: the members a body names, the tests over them, and what an accepted group leaves. -/

namespace Sys2Proof.Proofs.Groups

open Sys2Proof.Machine Sys2Proof.Safety Sys2Proof.Laws Sys2Proof.Proofs.Outcomes Sys2Proof.Proofs.Replies
  Sys2Proof.Proofs.Sweeps Sys2Proof.Proofs.Commands

variable {s t u v : State} {i j : OutId} {x y : Output}

/-! ### What the start of a proof leaves -/

/-- The record of a proof's command: its kind, its start, and the definition it took (R131). -/
structure Records (p : Proof) (kind : CmdKind) (start : Time) (x : Output) : Prop where
  kind : p.kind = some kind
  start : p.start = start
  object : p.object = x.cfg.proving
  expected : p.expected = x.cfg.expected

theorem records_blankProof (s : State) (x : Output) (kind : CmdKind) : Records (blankProof s x kind) kind s.clock x :=
  ⟨rfl, rfl, rfl, rfl⟩

/-- A proof has started at the output: nothing of it but its outcome record differs, and the proof has its record. -/
structure Started (i : OutId) (kind : CmdKind) (start : Time) (x : Output) (t : State) : Prop where
  output : ∃ r, t.output i = some { x with result := r }
  proof : Records (t.proof i) kind start x

theorem started_posted (found : s.output i = some x) (kind : CmdKind) (outcome : ProofOutcome) :
    Started i kind s.clock x (postOutcome i outcome (blankProof s x kind) 0 (s.setProof i (blankProof s x kind))) := by
  refine ⟨⟨_, output_postOutcome (s := s.setProof i _) found _ _ _⟩, ?_⟩
  rw [proof_postOutcome, proof_setProof_same]
  exact records_blankProof s x kind

theorem started_inFlight (found : s.output i = some x) {kind : CmdKind} {p : Proof} (h : Records p kind s.clock x) :
    Started i kind s.clock x (s.setProof i p) := by
  refine ⟨⟨x.result, found⟩, ?_⟩
  rw [proof_setProof_same]
  exact h

theorem started_idle (found : s.output i = some x) (idle : (s.proof i).phase = .none) (kind : CmdKind) :
    Started i kind s.clock x (startProof i kind s) := by
  by_cases nothing : NothingToWatch s x.cfg.proving
  · by_cases latch : kind = .latch
    · rw [startProof_latch kind found idle nothing latch]
      exact started_posted found kind .noProof
    · rw [startProof_awaiting kind found idle nothing latch]
      exact started_inFlight found ⟨rfl, rfl, rfl, rfl⟩
  · by_cases already : AlreadyThere s x.cfg.proving x.cfg.expected
    · rw [startProof_already kind found idle already]
      exact started_posted found kind .already
    · rw [startProof_watch kind found idle nothing already]
      exact started_inFlight found ⟨rfl, rfl, rfl, rfl⟩

theorem clock_endProof (outcome : ProofOutcome) (time : Nat) (s : State) :
    (endProof i outcome time s).clock = s.clock := by
  obtain ⟨_, _, _, _, _, h⟩ := endProof_outputSide i outcome time s
  rw [h]

theorem started_startProof (found : s.output i = some x) (kind : CmdKind) :
    Started i kind s.clock x (startProof i kind s) := by
  obtain ⟨r, ended⟩ := output_endProof_result found .abandoned 0
  have started := started_idle ended (phase_endProof .abandoned 0 s) kind
  rw [← startProof_endProof, clock_endProof] at started
  obtain ⟨⟨r', output⟩, ⟨hkind, hstart, hobject, hexpected⟩⟩ := started
  exact ⟨⟨r', output⟩, ⟨hkind, hstart, hobject, hexpected⟩⟩

/-! ### The two passes of a group -/

theorem untouched_applyStagedAt (h : i ≠ j) (s : State) : Untouched i s (applyStagedAt j s) := by
  unfold applyStagedAt
  split
  · exact untouched_setOutput h _ s
  · exact .refl i s

theorem sweep_applyStagedAt : Sweep (fun t i => applyStagedAt i t) outputPlace OutputsAndQueues where
  apart u i j h := Prod.ext (untouched_applyStagedAt h u).output (untouched_applyStagedAt h u).proof
  still u i := by
    unfold applyStagedAt
    split <;> rfl
  same _ := rfl
  trans _ _ _ := OutputsAndQueues.trans

theorem outputsAndQueues_postOutcome (outcome : ProofOutcome) (p : Proof) (time : Nat) (s : State) :
    OutputsAndQueues s (postOutcome i outcome p time s) := by
  unfold postOutcome
  split
  · exact OutputsAndQueues.trans (t := s.setOutput i _) rfl (outputsAndQueues_request _ _ _)
  · rfl

theorem outputsAndQueues_endProof (outcome : ProofOutcome) (time : Nat) (s : State) :
    OutputsAndQueues s (endProof i outcome time s) := by
  unfold endProof
  split
  · exact OutputsAndQueues.trans (t := s.setProof i _) rfl (outputsAndQueues_postOutcome _ _ _ _)
  · rfl

theorem outputsAndQueues_startProof (kind : CmdKind) (s : State) : OutputsAndQueues s (startProof i kind s) := by
  have ended := outputsAndQueues_endProof (i := i) .abandoned 0 s
  unfold startProof
  dsimp only
  split
  · exact ended
  · have filled : ∀ p, OutputsAndQueues s ((endProof i .abandoned 0 s).setProof i p) := fun p => ended.trans rfl
    split
    · exact (filled _).trans (outputsAndQueues_postOutcome _ _ _ _)
    · exact filled _

theorem untouched_startProof (h : i ≠ j) (kind : CmdKind) (s : State) : Untouched i s (startProof j kind s) := by
  have ended := untouched_endProof h .abandoned 0 s
  unfold startProof
  dsimp only
  split
  · exact ended
  · have filled : ∀ p, Untouched i s ((endProof j .abandoned 0 s).setProof j p) := fun p =>
      ended.trans (untouched_setProof h p _)
    split
    · exact (filled _).trans (untouched_postOutcome h _ _ _ _)
    · exact filled _

theorem pulseTo_eq (found : s.output i = some x) (kind : CmdKind) (e : Time) : pulseTo i kind e s = startProof i kind
    (s.setOutput i { x with state := .pulsing e, mismatch := mismatchNow s i true x.mismatch }) := by
  rw [pulseTo, enterState_eq found (.pulsing e) nofun]
  rfl

theorem pulseTo_undefined (h : s.output i = none) (kind : CmdKind) (e : Time) :
    pulseTo i kind e s = startProof i kind s := by
  simp [pulseTo, enterState, h]

theorem sweep_pulseTo (kind : CmdKind) (e : Time) : Sweep (fun t i => pulseTo i kind e t) outputPlace OutputsAndQueues where
  apart u i j h := by
    have kept : Untouched j u (pulseTo i kind e u) := by
      cases found : u.output i with
      | none => rw [pulseTo_undefined found]; exact untouched_startProof h kind u
      | some x => rw [pulseTo_eq found]; exact (untouched_setOutput h _ u).trans (untouched_startProof h kind _)
    exact Prod.ext kept.output kept.proof
  still u i := by
    cases found : u.output i with
    | none => rw [pulseTo_undefined found]; exact outputsAndQueues_startProof kind u
    | some x =>
      rw [pulseTo_eq found]
      exact OutputsAndQueues.trans (t := u.setOutput i _) rfl (outputsAndQueues_startProof kind _)
  same _ := rfl
  trans _ _ _ := OutputsAndQueues.trans

/-! ### What a group leaves -/

/-- The state in which the members are pulsed: their staged lengths apply (R119). -/
def staged (members : List OutId) (s : State) : State := members.foldl (fun t i => applyStagedAt i t) s

theorem outputsAndQueues_staged (members : List OutId) (s : State) : OutputsAndQueues s (staged members s) :=
  sweep_applyStagedAt.fixed_foldl members s

theorem groupPulse_eq (members : List OutId) (length : Nat) (s : State) : groupPulse members length s
    = members.foldl (fun t i => pulseTo i .group (after s.clock (length * 10)) t) (staged members s) := by
  have clock : (staged members s).clock = s.clock := by rw [outputsAndQueues_staged members s]
  rw [groupPulse]
  change members.foldl (fun t i => pulseTo i .group (after (staged members s).clock (msUnits length)) t)
    (staged members s) = _
  rw [clock]
  rfl

theorem outputsAndQueues_groupPulse (members : List OutId) (length : Nat) (s : State) :
    OutputsAndQueues s (groupPulse members length s) := by
  rw [groupPulse_eq]
  exact (outputsAndQueues_staged members s).trans ((sweep_pulseTo .group _).fixed_foldl members _)

theorem groupPulse_apart {members : List OutId} (h : j ∉ members) (length : Nat) (s : State) :
    (groupPulse members length s).output j = s.output j ∧ (groupPulse members length s).proof j = s.proof j := by
  rw [groupPulse_eq]
  have pulsed := (sweep_pulseTo .group (after s.clock (length * 10))).place_apart h (staged members s)
  exact Prod.mk.inj (pulsed.trans (sweep_applyStagedAt.place_apart h s))

/-- What an accepted group leaves of a member: PULSING to the end time with its staged lengths in force, a proof started. -/
theorem groupPulse_member {members : List OutId} (distinct : members.Nodup) (h : i ∈ members) (length : Nat)
    (found : s.output i = some x) : ∃ y, (groupPulse members length s).output i = some y
      ∧ y.cfg = appliedLengths x ∧ y.stagedPulse = none ∧ y.stagedProving = none
      ∧ y.state = .pulsing (after s.clock (length * 10))
      ∧ Records ((groupPulse members length s).proof i) .group s.clock x := by
  obtain ⟨u, -, atU, first⟩ := sweep_applyStagedAt.place_swept distinct h s
  obtain ⟨v, fixed, atV, second⟩ :=
    (sweep_pulseTo .group (after s.clock (length * 10))).place_swept distinct h (staged members s)
  have staged_ : (staged members s).output i = some x.applyStaged := by
    have foundU : u.output i = some x := (Prod.mk.inj atU).1.trans found
    have step : (staged members s).output i = (applyStagedAt i u).output i := (Prod.mk.inj first).1
    rw [step, applyStagedAt_eq foundU, output_setOutput_same]
  have foundV : v.output i = some x.applyStaged := (Prod.mk.inj atV).1.trans staged_
  have clockV : v.clock = s.clock := by rw [(outputsAndQueues_staged members s).trans fixed]
  obtain ⟨output, proof⟩ := Prod.mk.inj second
  rw [groupPulse_eq]
  rw [output, proof, pulseTo_eq foundV]
  obtain ⟨⟨r, left_⟩, records⟩ := started_startProof (output_setOutput_same v i { x.applyStaged with
    state := .pulsing (after s.clock (length * 10)), mismatch := mismatchNow v i true x.applyStaged.mismatch }) .group
  refine ⟨_, left_, rfl, rfl, rfl, rfl, ⟨records.kind, ?_, records.object, records.expected⟩⟩
  exact records.start.trans clockV

/-! ### The order of two members -/

theorem setOutput_comm (h : i ≠ j) (x y : Output) (s : State) :
    (s.setOutput i x).setOutput j y = (s.setOutput j y).setOutput i x := by
  have tables : upd (upd s.outputs i (some x)) j (some y) = upd (upd s.outputs j (some y)) i (some x) :=
    Vector.set_comm (some x) (some y) (fun he => h (Fin.ext he))
  simp [State.setOutput, tables]

theorem setOutput_twice (h : i ≠ j) (x y x' y' : Output) (s : State) :
    (((s.setOutput i x).setOutput j y).setOutput i x').setOutput j y' = (s.setOutput i x').setOutput j y' := by
  rw [setOutput_comm h.symm, setOutput_setOutput, setOutput_setOutput]

theorem request_setOutput (src : Source) (c : ReportClass) (j : OutId) (y : Output) (s : State) :
    request src c (s.setOutput j y) = (request src c s).setOutput j y := by
  have urgent : (s.setOutput j y).urgent = s.urgent := rfl
  have routine : (s.setOutput j y).routine = s.routine := rfl
  unfold request
  rw [urgent, routine]
  split
  · rfl
  · cases entryOf s.routine src <;> cases c <;> rfl

theorem postOutcome_setOutput (h : i ≠ j) (outcome : ProofOutcome) (p : Proof) (time : Nat) (y : Output) (s : State) :
    postOutcome i outcome p time (s.setOutput j y) = (postOutcome i outcome p time s).setOutput j y := by
  have kept : (s.setOutput j y).output i = s.output i := by rw [output_setOutput, if_neg h]
  cases found : s.output i with
  | none => rw [postOutcome_undefined (kept.trans found), postOutcome_undefined found]
  | some x => rw [postOutcome_eq (kept.trans found), postOutcome_eq found, setOutput_comm h.symm, request_setOutput]

theorem endProof_setOutput (h : i ≠ j) (outcome : ProofOutcome) (time : Nat) (y : Output) (s : State) :
    endProof i outcome time (s.setOutput j y) = (endProof i outcome time s).setOutput j y := by
  by_cases idle : (s.proof i).phase = .none
  · rw [endProof_idle idle, endProof_idle (s := s.setOutput j y) idle]
  · rw [endProof_flying idle, endProof_flying (s := s.setOutput j y) idle]
    exact postOutcome_setOutput h outcome _ time y (s.setProof i _)

/-- A new proof is filled and takes its course, none being in flight (R131, R133). -/
def fillProof (i : OutId) (x : Output) (kind : CmdKind) (s : State) : State :=
  match outcomeAtStart (proofCourse s x.cfg.proving x.cfg.expected) kind with
  | some outcome => postOutcome i outcome (newProof s x kind) 0 (s.setProof i (newProof s x kind))
  | none => s.setProof i (newProof s x kind)

theorem startProof_defined {kind : CmdKind} (found : (endProof i .abandoned 0 s).output i = some x) :
    startProof i kind s = fillProof i x kind (endProof i .abandoned 0 s) := by
  simp only [startProof, found]
  rfl

theorem startProof_undefined {kind : CmdKind} (h : (endProof i .abandoned 0 s).output i = none) :
    startProof i kind s = endProof i .abandoned 0 s := by
  simp only [startProof, h]

theorem fillProof_setOutput (h : i ≠ j) (kind : CmdKind) (x y : Output) (s : State) :
    fillProof i x kind (s.setOutput j y) = (fillProof i x kind s).setOutput j y := by
  have course : proofCourse (s.setOutput j y) = proofCourse s := rfl
  unfold fillProof
  rw [course]
  cases outcomeAtStart (proofCourse s x.cfg.proving x.cfg.expected) kind with
  | none => rfl
  | some outcome => exact postOutcome_setOutput h outcome _ 0 y (s.setProof i (newProof s x kind))

theorem startProof_setOutput (h : i ≠ j) (kind : CmdKind) (y : Output) (s : State) :
    startProof i kind (s.setOutput j y) = (startProof i kind s).setOutput j y := by
  have ended := endProof_setOutput h .abandoned 0 y s
  have kept : (endProof i .abandoned 0 (s.setOutput j y)).output i = (endProof i .abandoned 0 s).output i := by
    rw [ended, output_setOutput, if_neg h]
  cases found : (endProof i .abandoned 0 s).output i with
  | none => rw [startProof_undefined (kept.trans found), startProof_undefined found, ended]
  | some x => rw [startProof_defined (kept.trans found), startProof_defined found, ended, fillProof_setOutput h]

theorem mismatchNow_congr (h : OutputsAndQueues s t) (i : OutId) (on : Bool) (old : Option Time) :
    mismatchNow t i on old = mismatchNow s i on old := by
  rw [h]
  rfl

theorem staged_pair (h : i ≠ j) (found : s.output i = some x) (found' : s.output j = some y) :
    staged [i, j] s = (s.setOutput i x.applyStaged).setOutput j y.applyStaged := by
  have other : (s.setOutput i x.applyStaged).output j = some y := by rw [output_setOutput, if_neg h.symm, found']
  change applyStagedAt j (applyStagedAt i s) = _
  rw [applyStagedAt_eq found, applyStagedAt_eq other]

theorem pulseTo_staged (h : OutputsAndQueues s t) (found : t.output i = some x.applyStaged) (e : Time) :
    pulseTo i .group e t = startProof i .group (t.setOutput i (commanded s i (.pulsing e) x)) := by
  rw [pulseTo_eq found, mismatchNow_congr h]
  rfl

theorem outputsAndQueues_setOutput (i : OutId) (x : Output) (s : State) : OutputsAndQueues s (s.setOutput i x) := rfl

theorem pulseTo_pair (h : i ≠ j) (e : Time) (x y : Output) (s : State) :
    pulseTo j .group e (pulseTo i .group e ((s.setOutput i x.applyStaged).setOutput j y.applyStaged))
      = startProof j .group (startProof i .group ((s.setOutput i (commanded s i (.pulsing e) x)).setOutput j
          (commanded s j (.pulsing e) y))) := by
  have both : OutputsAndQueues s ((s.setOutput i x.applyStaged).setOutput j y.applyStaged) :=
    (outputsAndQueues_setOutput i _ s).trans (outputsAndQueues_setOutput j _ _)
  have at_i : ((s.setOutput i x.applyStaged).setOutput j y.applyStaged).output i = some x.applyStaged := by
    rw [output_setOutput, if_neg h, output_setOutput_same]
  rw [pulseTo_staged both at_i]
  have entered := both.trans (outputsAndQueues_setOutput i (commanded s i (.pulsing e) x) _)
  have at_j : (startProof i .group (((s.setOutput i x.applyStaged).setOutput j y.applyStaged).setOutput i
      (commanded s i (.pulsing e) x))).output j = some y.applyStaged := by
    rw [(untouched_startProof h.symm .group _).output, output_setOutput, if_neg h.symm, output_setOutput_same]
  rw [pulseTo_staged (entered.trans (outputsAndQueues_startProof .group _)) at_j, ← startProof_setOutput h,
    setOutput_twice h]

/-- Two members: both outputs as the command leaves them, then the two proofs in the order named. -/
theorem groupPulse_pair (h : i ≠ j) (found : s.output i = some x) (found' : s.output j = some y) (length : Nat) :
    groupPulse [i, j] length s = startProof j .group (startProof i .group
      ((s.setOutput i (commanded s i (.pulsing (after s.clock (length * 10))) x)).setOutput j
        (commanded s j (.pulsing (after s.clock (length * 10))) y))) := by
  rw [groupPulse_eq, staged_pair h found found', List.foldl_cons, List.foldl_cons, List.foldl_nil, pulseTo_pair h]

/-! ### The members a body names -/

section Named

variable {names : List Byte} {members : List OutId} {ms : List (OutId × Output)}

theorem findOutput_ofNat (i : OutId) (s : State) :
    s.findOutput (BitVec.ofNat 8 i.val) = (s.output i).map fun x => (i, x) := by
  have value : i.val = (BitVec.ofNat 8 i.val).toNat := by
    have := i.isLt
    simp [Nat.mod_eq_of_lt (show i.val < 256 by omega)]
  cases found : s.output i with
  | none =>
    refine findOutput_none fun j hj => ?_
    rw [show j = i from Fin.ext (hj.trans value.symm), found]
  | some x => exact findOutput_some value found

/-- Where every member is defined, the members are found in the order the list gives. -/
theorem findMembers_defined (h : ∀ i ∈ members, s.output i ≠ none) :
    ∃ ms, findMembers s (members.map fun i => BitVec.ofNat 8 i.val) = some ms ∧ ms.map Prod.fst = members := by
  induction members with
  | nil => exact ⟨[], rfl, rfl⟩
  | cons i members ih =>
    obtain ⟨ms, found, first⟩ := ih fun j hj => h j (List.mem_cons_of_mem i hj)
    obtain ⟨x, hx⟩ := Option.ne_none_iff_exists'.mp (h i List.mem_cons_self)
    refine ⟨(i, x) :: ms, ?_, by rw [List.map_cons, first]⟩
    rw [List.map_cons, findMembers, findOutput_ofNat, hx, found]
    rfl

theorem findMembers_undefined (h : ∃ b ∈ names, ∀ i : OutId, i.val = b.toNat → s.output i = none) :
    findMembers s names = none := by
  obtain ⟨b, hb, undefined_⟩ := h
  induction names with
  | nil => cases hb
  | cons c names ih =>
    rw [findMembers]
    rcases List.mem_cons.mp hb with rfl | hb
    · rw [findOutput_none undefined_]
    · rw [ih hb]
      cases s.findOutput c <;> rfl

/-- A fact of some member, of the members found. -/
theorem exists_member_iff (found : ∀ m ∈ ms, s.output m.1 = some m.2) (first : ms.map Prod.fst = members)
    (p : OutId → Output → Prop) : (∃ m ∈ ms, p m.1 m.2) ↔ ∃ i x, i ∈ members ∧ s.output i = some x ∧ p i x := by
  subst first
  constructor
  · rintro ⟨m, hm, h⟩
    exact ⟨m.1, m.2, List.mem_map_of_mem hm, found m hm, h⟩
  · rintro ⟨i, x, hi, hx, h⟩
    obtain ⟨m, hm, rfl⟩ := List.mem_map.mp hi
    rw [found m hm] at hx
    cases hx
    exact ⟨m, hm, h⟩

end Named

@[simp] theorem findMembers_received (s : State) (names : List Byte) :
    findMembers (received s) names = findMembers s names := by
  induction names with
  | nil => rfl
  | cons b names ih => rw [findMembers, findMembers, ih, findOutput_received]

@[simp] theorem blockedOutside_received (s : State) (ms : List (OutId × Output)) :
    blockedOutside (received s) ms = blockedOutside s ms := by
  simp [blockedOutside, partnerBlocks]

theorem excluded_eq_true : excluded s x = true ↔ ∃ j, x.cfg.partner = some j ∧ partnerBlocks s j = true := by
  unfold excluded
  cases x.cfg.partner <;> simp

/-! ### The tests of the handler -/

section Handler

variable {names : List Byte} {w : Word16} {body : List Byte} {ms : List (OutId × Output)}

theorem msgGroupPulse_malformed (running : s.partState = .running) (h : parseGroupPulse body = none) :
    msgGroupPulse body s = refuse .badForm s := by
  rw [msgGroupPulse, inRunning_pass _ running, h]

variable (running : s.partState = .running) (parsed : parseGroupPulse body = some (names, w))
include running parsed

theorem msgGroupPulse_undefined (h : findMembers s names = none) : msgGroupPulse body s = refuse .noSuch s := by
  rw [msgGroupPulse, inRunning_pass _ running, parsed]
  simp only [h]

variable (found : findMembers s names = some ms)
include found

theorem msgGroupPulse_latched (h : ∃ m ∈ ms, m.2.state = .latched) : msgGroupPulse body s = refuse .wrongState s := by
  rw [msgGroupPulse, inRunning_pass _ running, parsed]
  simp only [found]
  exact if_pos (by simpa using h)

variable (latched : ¬ ∃ m ∈ ms, m.2.state = .latched)
include latched

theorem msgGroupPulse_faulted (h : ∃ m ∈ ms, m.2.state = .faulted) :
    msgGroupPulse body s = refuse .driverFaulted s := by
  rw [msgGroupPulse, inRunning_pass _ running, parsed]
  simp only [found]
  rw [if_neg (by simpa using latched)]
  exact if_pos (by simpa using h)

variable (faulted : ¬ ∃ m ∈ ms, m.2.state = .faulted)
include faulted

theorem msgGroupPulse_excluded (h : (partnersInGroup ms || blockedOutside s ms) = true) :
    msgGroupPulse body s = refuse .excluded s := by
  rw [msgGroupPulse, inRunning_pass _ running, parsed]
  simp only [found]
  rw [if_neg (by simpa using latched), if_neg (by simpa using faulted)]
  exact if_pos h

theorem msgGroupPulse_accepted (h : (partnersInGroup ms || blockedOutside s ms) = false) : msgGroupPulse body s
    = done (acceptedCode (clampPulse w).moved) (groupPulse (ms.map Prod.fst) (clampPulse w).value s) := by
  rw [msgGroupPulse, inRunning_pass _ running, parsed]
  simp only [found]
  rw [if_neg (by simpa using latched), if_neg (by simpa using faulted), if_neg (by simp [h])]

end Handler

theorem partnersInGroup_iff (ms : List (OutId × Output)) : partnersInGroup ms = true
    ↔ ∃ m ∈ ms, ∃ k ∈ ms, m.2.cfg.partner = some k.1 ∧ k.2.cfg.partner = some m.1 := by
  simp [partnersInGroup]

theorem blockedOutside_iff (s : State) (ms : List (OutId × Output)) : blockedOutside s ms = true
    ↔ ∃ m ∈ ms, ∃ j, m.2.cfg.partner = some j ∧ j ∉ ms.map Prod.fst ∧ partnerBlocks s j = true := by
  unfold blockedOutside
  rw [List.any_eq_true]
  refine exists_congr fun m => and_congr_right fun _ => ?_
  cases m.2.cfg.partner <;> simp

/-- The one partner of an output blocks it exactly where the exclusion check fails. -/
theorem partnerBlocks_iff (h : x.cfg.partner = some j) : partnerBlocks s j = true ↔ ExclusionFails s x := by
  rw [← excluded_iff, excluded, h]
  rfl

/-! ### The body -/

section Body

variable {count m1 m2 m3 m4 w1 w0 : Byte}

/-- The count fits and no member is named twice (R119). -/
abbrev Fits (count m1 m2 m3 m4 : Byte) : Prop :=
  2 ≤ count.toNat ∧ count.toNat ≤ 4 ∧ ([m1, m2, m3, m4].take count.toNat).Nodup

theorem parseGroupPulse_fits (h : Fits count m1 m2 m3 m4) : parseGroupPulse [count, m1, m2, m3, m4, w1, w0]
    = some ([m1, m2, m3, m4].take count.toNat, word w1 w0) := if_pos h

theorem parseGroupPulse_malformed (h : ¬ Fits count m1 m2 m3 m4) :
    parseGroupPulse [count, m1, m2, m3, m4, w1, w0] = none := if_neg h

theorem clampPulse_value (hi lo : Byte) : (clampPulse (word hi lo)).value = clamp 20 10000 (num2 hi lo) := by
  rw [clampPulse, word_toNat]
  rfl

theorem clampPulse_moved (hi lo : Byte) : (clampPulse (word hi lo)).moved = true ↔ Outside 20 10000 (num2 hi lo) := by
  rw [clampPulse, word_toNat]
  exact clampField_moved (by decide)

end Body

/-! ### Two members -/

section Two

variable {m1 m2 m3 m4 w1 w0 : Byte}

theorem fits_two : Fits 2 m1 m2 m3 m4 ↔ m1 ≠ m2 := by simp [Fits]

theorem findMembers_two (hi : i.val = m1.toNat) (hj : j.val = m2.toNat) (found : s.output i = some x)
    (found' : s.output j = some y) : findMembers s [m1, m2] = some [(i, x), (j, y)] := by
  simp [findMembers, findOutput_some hi found, findOutput_some hj found']

theorem partnersInGroup_two (h : x.cfg.partner ≠ some i) (k : y.cfg.partner ≠ some j) :
    partnersInGroup [(i, x), (j, y)] = true ↔ x.cfg.partner = some j ∧ y.cfg.partner = some i := by
  rw [partnersInGroup_iff]
  simp [h, k]
  tauto

theorem blockedOutside_two (h : x.cfg.partner ≠ some i) (k : y.cfg.partner ≠ some j) :
    blockedOutside s [(i, x), (j, y)] = true ↔ (x.cfg.partner ≠ some j ∧ ExclusionFails s x)
      ∨ (y.cfg.partner ≠ some i ∧ ExclusionFails s y) := by
  have one : ∀ z : Output, ∀ a b : OutId, z.cfg.partner ≠ some a →
      ((∃ l, z.cfg.partner = some l ∧ l ≠ a ∧ l ≠ b ∧ partnerBlocks s l = true)
        ↔ z.cfg.partner ≠ some b ∧ ExclusionFails s z) := by
    intro z a b own
    rw [← excluded_iff, excluded_eq_true]
    constructor
    · rintro ⟨l, hl, -, hb, blocks⟩
      exact ⟨fun he => hb (Option.some.inj (hl.symm.trans he)), l, hl, blocks⟩
    · rintro ⟨hb, l, hl, blocks⟩
      exact ⟨l, hl, fun he => own (he ▸ hl), fun he => hb (he ▸ hl), blocks⟩
  rw [blockedOutside_iff, ← one x i j h, ← one y j i k]
  simp
  grind

end Two

/-! ### Any members -/

section Any

variable {members : List OutId} {ms : List (OutId × Output)}

/-- Two members are exclusion partners of each other (R119). -/
abbrev PartnersIn (s : State) (members : List OutId) : Prop := ∃ i j x y, i ∈ members ∧ j ∈ members
  ∧ s.output i = some x ∧ s.output j = some y ∧ x.cfg.partner = some j ∧ y.cfg.partner = some i

/-- A partner outside the group blocks a member (R119). -/
abbrev OutsideBlocks (s : State) (members : List OutId) : Prop := ∃ i j x, i ∈ members ∧ s.output i = some x
  ∧ x.cfg.partner = some j ∧ j ∉ members ∧ ExclusionFails s x

/-- Every member is defined, neither LATCHED nor FAULTED, and no exclusion stands in its way. -/
abbrev Free (s : State) (members : List OutId) : Prop := ∀ i ∈ members, ∃ x, s.output i = some x ∧ x.state ≠ .latched
  ∧ x.state ≠ .faulted ∧ (∀ j y, x.cfg.partner = some j → j ∈ members → s.output j = some y → y.cfg.partner ≠ some i)
  ∧ (∀ j, x.cfg.partner = some j → j ∉ members → ¬ ExclusionFails s x)

theorem Free.defined (h : Free s members) : ∀ i ∈ members, s.output i ≠ none := fun i hi => by
  obtain ⟨x, hx, -⟩ := h i hi
  simp [hx]

theorem Free.commandable (h : Free s members) (hi : i ∈ members) (found : s.output i = some x) :
    x.state ≠ .latched ∧ x.state ≠ .faulted := by
  obtain ⟨y, hy, latched, faulted, -⟩ := h i hi
  rw [found] at hy
  cases hy
  exact ⟨latched, faulted⟩

theorem Free.noPartners (h : Free s members) : ¬ PartnersIn s members := by
  rintro ⟨i, j, x, y, hi, hj, hx, hy, forth, back⟩
  obtain ⟨x', hx', -, -, apart, -⟩ := h i hi
  rw [hx] at hx'
  cases hx'
  exact apart j y forth hj hy back

theorem Free.noneOutside (h : Free s members) : ¬ OutsideBlocks s members := by
  rintro ⟨i, j, x, hi, hx, partner, outside, fails⟩
  obtain ⟨x', hx', -, -, -, clear⟩ := h i hi
  rw [hx] at hx'
  cases hx'
  exact clear j partner outside fails

variable (found : ∀ m ∈ ms, s.output m.1 = some m.2) (first : ms.map Prod.fst = members)
include found first

theorem partnersInGroup_named : partnersInGroup ms = true ↔ PartnersIn s members := by
  rw [partnersInGroup_iff, exists_member_iff found first fun i x => ∃ k ∈ ms, x.cfg.partner = some k.1
    ∧ k.2.cfg.partner = some i]
  constructor
  · rintro ⟨i, x, hi, hx, k, hk, forth, back⟩
    exact ⟨i, k.1, x, k.2, hi, first ▸ List.mem_map_of_mem hk, hx, found k hk, forth, back⟩
  · rintro ⟨i, j, x, y, hi, hj, hx, hy, forth, back⟩
    exact ⟨i, x, hi, hx, (exists_member_iff found first fun l z => x.cfg.partner = some l ∧ z.cfg.partner = some i).mpr
      ⟨j, y, hj, hy, forth, back⟩⟩

theorem blockedOutside_named : blockedOutside s ms = true ↔ OutsideBlocks s members := by
  rw [blockedOutside_iff, first, exists_member_iff found first fun i x => ∃ j, x.cfg.partner = some j ∧ j ∉ members
    ∧ partnerBlocks s j = true]
  constructor
  · rintro ⟨i, x, hi, hx, j, hj, outside, blocks⟩
    exact ⟨i, j, x, hi, hx, hj, outside, (partnerBlocks_iff hj).mp blocks⟩
  · rintro ⟨i, j, x, hi, hx, hj, outside, fails⟩
    exact ⟨i, x, hi, hx, j, hj, outside, (partnerBlocks_iff hj).mpr fails⟩

theorem blocked_named : (partnersInGroup ms || blockedOutside (received s) ms) = true
    ↔ PartnersIn s members ∨ OutsideBlocks s members := by
  rw [blockedOutside_received, Bool.or_eq_true, partnersInGroup_named found first, blockedOutside_named found first]

end Any

/-! ### The obligation -/

/-- Settles O40: the tests over the members found, in their order; then the two passes over them. -/
theorem groupPulse : Obligations.GroupPulse := by
  unfold Obligations.GroupPulse
  refine ⟨fun s m1 m2 m3 m4 w1 w0 ⟨ready, isRunning⟩ => ?_, fun s count m1 m2 m3 m4 w1 w0 ⟨ready, isRunning⟩ => ?_⟩
  · have running := received_running isRunning
    refine ⟨fun same => ?_, fun distinct undefined_ => ?_, fun i j x y hi hj distinct found found' own own' => ?_⟩
    · exact refuses_of (m := msgGroupPulse) ready rfl
        (msgGroupPulse_malformed running (parseGroupPulse_malformed (by simpa [fits_two] using same)))
    · refine refuses_of (m := msgGroupPulse) ready rfl
        (msgGroupPulse_undefined running (parseGroupPulse_fits (fits_two.mpr distinct)) ?_)
      rw [findMembers_received]
      exact findMembers_undefined ⟨m1, by simp, fun i hi => undefined_ i (.inl hi)⟩
    have names : m1 ≠ m2 := fun he => distinct (Fin.ext (by rw [hi, hj, he]))
    have parsed := parseGroupPulse_fits (w1 := w1) (w0 := w0) (fits_two (m3 := m3) (m4 := m4) |>.mpr names)
    have members : findMembers (received s) [m1, m2] = some [(i, x), (j, y)] := by
      rw [findMembers_received, findMembers_two hi hj found found']
    have outside := (partnersInGroup_two own own').or (blockedOutside_two (s := s) own own')
    rw [← Bool.or_eq_true, ← blockedOutside_received] at outside
    refine ⟨fun latched => ?_, fun latched faulted => ?_, fun latched faulted blocked => ?_,
      fun latched faulted apart clear => ?_⟩
    · exact refuses_of (m := msgGroupPulse) ready rfl (msgGroupPulse_latched running parsed members (by simpa using latched))
    · exact refuses_of (m := msgGroupPulse) ready rfl
        (msgGroupPulse_faulted running parsed members (by simpa using latched) (by simpa using faulted))
    · exact refuses_of (m := msgGroupPulse) ready rfl (msgGroupPulse_excluded running parsed members
        (by simpa using latched) (by simpa using faulted) (outside.mpr blocked))
    · have accepted := msgGroupPulse_accepted running parsed members (by simpa using latched) (by simpa using faulted)
        (Bool.eq_false_iff.mpr (mt outside.mp (not_or.mpr ⟨apart, clear⟩)))
      rw [clampPulse_value, show [(i, x), (j, y)].map Prod.fst = [i, j] from rfl, groupPulse_pair distinct
        (s := received s) (by simpa using found) (by simpa using found'), commanded_received, commanded_received,
        received_clock] at accepted
      refine ⟨fun moved => ?_, fun kept => ?_⟩
      · rw [acceptedCode_moved (clampPulse_moved w1 w0) moved] at accepted
        exact answersWith_of (m := msgGroupPulse) ready rfl accepted
      · rw [acceptedCode_kept (clampPulse_moved w1 w0) kept] at accepted
        exact answersWith_of (m := msgGroupPulse) ready rfl accepted
  · have running := received_running isRunning
    refine ⟨fun malformed => ?_, fun fits undefined_ => ?_, fun members fits named defined => ?_,
      fun members fits named free => ?_⟩
    · exact refuses_of (m := msgGroupPulse) ready rfl (msgGroupPulse_malformed running (parseGroupPulse_malformed malformed))
    · refine refuses_of (m := msgGroupPulse) ready rfl (msgGroupPulse_undefined running (parseGroupPulse_fits fits) ?_)
      rw [findMembers_received]
      exact findMembers_undefined undefined_
    · obtain ⟨ms, members_, first⟩ := findMembers_defined defined
      have found := Effects.found_of_findMembers members_
      have parsed := parseGroupPulse_fits (w1 := w1) (w0 := w0) fits
      rw [named, ← findMembers_received] at members_
      have stands : ∀ st, (∃ m ∈ ms, m.2.state = st) ↔ ∃ i x, i ∈ members ∧ s.output i = some x ∧ x.state = st :=
        fun st => exists_member_iff found first fun _ x => x.state = st
      refine ⟨fun latched => ?_, fun latched faulted => ?_, fun latched faulted blocked => ?_⟩
      · exact refuses_of (m := msgGroupPulse) ready rfl
          (msgGroupPulse_latched running parsed members_ ((stands _).mpr latched))
      · exact refuses_of (m := msgGroupPulse) ready rfl (msgGroupPulse_faulted running parsed members_
          (mt (stands _).mp latched) ((stands _).mpr faulted))
      · exact refuses_of (m := msgGroupPulse) ready rfl (msgGroupPulse_excluded running parsed members_
          (mt (stands _).mp latched) (mt (stands _).mp faulted) ((blocked_named found first).mpr blocked))
    · obtain ⟨ms, members_, first⟩ := findMembers_defined (Free.defined free)
      have found := Effects.found_of_findMembers members_
      have parsed := parseGroupPulse_fits (w1 := w1) (w0 := w0) fits
      rw [named, ← findMembers_received] at members_
      have distinct : members.Nodup := List.Nodup.of_map _ (named ▸ fits.2.2)
      have commandable : ∀ m ∈ ms, m.2.state ≠ .latched ∧ m.2.state ≠ .faulted := fun m hm =>
        Free.commandable free (first ▸ List.mem_map_of_mem hm) (found m hm)
      have accepted := msgGroupPulse_accepted running parsed members_
        (fun ⟨m, hm, h⟩ => (commandable m hm).1 h) (fun ⟨m, hm, h⟩ => (commandable m hm).2 h)
        (Bool.eq_false_iff.mpr (mt (blocked_named found first).mp (not_or.mpr ⟨Free.noPartners free, Free.noneOutside free⟩)))
      rw [clampPulse_value, first] at accepted
      refine ⟨_, _, answersWith_of (m := msgGroupPulse) ready rfl accepted, ?_, ?_,
        outputsAndQueues_groupPulse _ _ _, fun j hj => ?_, fun i x hi hx => ?_⟩
      · rw [← clampPulse_moved w1 w0]
        cases (clampPulse (word w1 w0)).moved <;> simp [acceptedCode]
      · cases (clampPulse (word w1 w0)).moved <;> simp [acceptedCode]
      · simpa using groupPulse_apart hj (clamp 20 10000 (num2 w1 w0)) (received s)
      · obtain ⟨y, hy, hcfg, hpulse, hproving, hstate, records⟩ := groupPulse_member distinct hi
          (clamp 20 10000 (num2 w1 w0)) (s := received s) (by simpa using hx)
        rw [received_clock] at hstate records
        exact ⟨y, hy, hcfg, hpulse, hproving, hstate, records.kind, records.start, records.object, records.expected⟩

end Sys2Proof.Proofs.Groups
end

section
/-! Adjust Object and Adjust Output, Suspend Object and Resume Object. -/

namespace Sys2Proof.Proofs.Adjusting

open Sys2Proof.Machine Sys2Proof.Safety Sys2Proof.Laws Sys2Proof.Proofs.Outcomes Sys2Proof.Proofs.Objects
  Sys2Proof.Proofs.Replies

variable {s : State} {n : ObjId} {o : Obj} {i : OutId} {x : Output} {body : List Byte}

/-! ### Presence and fields -/

theorem and_mask_eq_zero (b : Byte) (k : Nat) (hk : 2 ^ k - 1 < 256) :
    b &&& BitVec.ofNat 8 (2 ^ k - 1) = 0 ↔ b.toNat % 2 ^ k = 0 := by
  rw [← BitVec.toNat_inj, BitVec.toNat_and, BitVec.toNat_ofNat, Nat.mod_eq_of_lt hk, Nat.and_two_pow_sub_one_eq_mod]
  rfl

theorem clampChatter_value (k : Nat) : (clampChatter k).value = if k = 0 then 0 else clamp 2 60 k := by
  unfold clampChatter
  split <;> rfl

theorem clampChatter_moved (k : Nat) : (clampChatter k).moved = true ↔ k = 1 ∨ 60 < k := by
  unfold clampChatter
  split
  · simp [*]
  · rw [clampField_moved (by decide)]
    simp only [Outside]
    omega

/-! ### The object an adjustment leaves -/

section Adjust

variable (f : AdjustObjectForm) (o : Obj)

/-- The service threshold is given a new value (R34). -/
def Changes : Prop := present f.presence 3 = true ∧ f.service.toNat ≠ o.cfg.service

/-- The new threshold is reached at once (R30, R34). -/
def DueNow : Prop :=
  Changes f o ∧ o.admission = .live ∧ f.service.toNat ≠ 0 ∧ f.service.toNat ≤ o.opCount

/-- The urgent flag an adjustment leaves (R34). -/
def urgentAfter : Bool := if present f.presence 4 then (flagOfByte f.urgent).getD o.cfg.urgent else o.cfg.urgent

/-- The staged values and the urgent flag are placed (R34). -/
def placed : Obj := { o with cfg := { o.cfg with urgent := urgentAfter f o }, staged := f.stage o.staged }

/-- A new threshold is placed and its latch cleared (R30). -/
def thresholded : Obj :=
  { placed f o with cfg := { (placed f o).cfg with service := f.service.toNat }, serviceLatch := false }

theorem adjustStep_eq : adjustStep f o
    = if present f.presence 3 then (placed f o).begin.setService f.service.toNat else (placed f o).begin := by
  unfold adjustStep placed urgentAfter
  cases present f.presence 4 <;> rfl

variable {f o}

theorem adjustStep_unchanged (h : ¬ Changes f o) : adjustStep f o = (placed f o).begin := by
  rw [adjustStep_eq]
  split
  · rename_i has
    exact if_pos (not_not.mp (not_and.mp h has))
  · rfl

theorem setService_changes (h : Changes f o) : adjustStep f o
    = if o.admission = .live then (thresholded f o).begin.serviceTest
      else { thresholded f o with serviceTest := true }.begin := by
  rw [adjustStep_eq, if_pos h.1]
  exact if_neg h.2

theorem adjustStep_due (h : DueNow f o) : adjustStep f o = {
    obj := { thresholded f o with serviceLatch := true, events := o.events ||| Event.serviceDue.bit }
    reason := some .routine
    change := none } := by
  obtain ⟨changes, live, nonzero, reached⟩ := h
  rw [setService_changes changes, if_pos live]
  exact serviceTest_due (p := (thresholded f o).begin) ⟨nonzero, reached, rfl⟩

theorem adjustStep_quiet (changes : Changes f o) (live : o.admission = .live) (h : ¬ DueNow f o) :
    adjustStep f o = (thresholded f o).begin := by
  rw [setService_changes changes, if_pos live]
  exact serviceTest_not (p := (thresholded f o).begin) fun ⟨nonzero, reached, _⟩ => h ⟨changes, live, nonzero, reached⟩

theorem adjustStep_suspended (changes : Changes f o) (suspended : o.admission = .suspended) :
    adjustStep f o = { thresholded f o with serviceTest := true }.begin := by
  rw [setService_changes changes, if_neg (by simp [suspended])]

/-- What an adjustment leaves of an object, and what it asks for (R34). -/
structure Adjusted (f : AdjustObjectForm) (o : Obj) (p : ObjStep) : Prop where
  change : p.change = none
  obj : p.obj = { o with cfg := p.obj.cfg, staged := p.obj.staged, serviceLatch := p.obj.serviceLatch,
                         serviceTest := p.obj.serviceTest, events := p.obj.events }
  cfg : p.obj.cfg = { o.cfg with service := p.obj.cfg.service, urgent := p.obj.cfg.urgent }
  urgent : p.obj.cfg.urgent = urgentAfter f o
  service : Changes f o → p.obj.cfg.service = f.service.toNat
  kept : ¬ Changes f o → p.obj.cfg.service = o.cfg.service
  staged : p.obj.staged = f.stage o.staged
  still : ¬ Changes f o → p.obj.serviceLatch = o.serviceLatch ∧ p.obj.serviceTest = o.serviceTest
  latch : Changes f o → (p.obj.serviceLatch = true ↔ DueNow f o)
  test : Changes f o → (p.obj.serviceTest = true ↔ o.serviceTest = true ∨ o.admission = .suspended)
  due : DueNow f o → p.obj.events = o.events ||| Event.serviceDue.bit ∧ p.reason = some .routine
  quiet : ¬ DueNow f o → p.obj.events = o.events ∧ p.reason = none

theorem adjusted_adjustStep (f : AdjustObjectForm) (o : Obj) : Adjusted f o (adjustStep f o) := by
  by_cases changes : Changes f o
  · cases admission : o.admission with
    | live =>
      by_cases due : DueNow f o
      · rw [adjustStep_due due]
        constructor <;> simp [changes, due, admission, thresholded, placed]
      · rw [adjustStep_quiet changes admission due]
        constructor <;> simp [changes, due, admission, thresholded, placed, Obj.begin]
    | suspended =>
      have due : ¬ DueNow f o := fun h => nomatch h.2.1.symm.trans admission
      rw [adjustStep_suspended changes admission]
      constructor <;> simp [changes, due, admission, thresholded, placed, Obj.begin]
  · have due : ¬ DueNow f o := fun h => changes h.1
    rw [adjustStep_unchanged changes]
    constructor <;> simp [changes, due, placed, Obj.begin]

end Adjust

/-! ### The tests of Adjust Object -/

section Handler

variable {f : AdjustObjectForm} (running : s.partState = .running) (parsed : parseAdjustObject body = some f)
include running parsed

theorem msgAdjustObject_malformed (h : f.badForm = true) : msgAdjustObject body s = refuse .badForm s := by
  rw [msgAdjustObject, inRunning_pass _ running, parsed]
  exact if_pos h

theorem msgAdjustObject_undefined (fits : f.badForm = false) (h : s.findObject f.number = none) :
    msgAdjustObject body s = refuse .noSuch s := by
  rw [msgAdjustObject, inRunning_pass _ running, parsed]
  simp only [fits, h]
  rfl

variable (found : s.findObject f.number = some (n, o))
include found

theorem msgAdjustObject_unused (h : f.unused o.cfg.kind = true) : msgAdjustObject body s = refuse .badForm s := by
  rw [msgAdjustObject, inRunning_pass _ running, parsed]
  simp only [found, h]
  exact ite_self _

theorem msgAdjustObject_accepted (fits : f.badForm = false) (used : f.unused o.cfg.kind = false) :
    msgAdjustObject body s = done (acceptedCode f.moved) (applyStep n (adjustStep f o) s) := by
  rw [msgAdjustObject, inRunning_pass _ running, parsed]
  simp only [fits, found, used]
  rfl

end Handler

theorem adjustBadForm_iff (f : AdjustObjectForm) : f.badForm = true
    ↔ f.presence.toNat % 32 = 0 ∨ (f.presence.getLsbD 4 = true ∧ 1 < f.urgent.toNat) := by
  rw [AdjustObjectForm.badForm, Bool.or_eq_true, Bool.and_eq_true, decide_eq_true_iff, Option.isNone_iff_eq_none,
    flag_none_iff, show (0x1F : Byte) = BitVec.ofNat 8 (2 ^ 5 - 1) from rfl, and_mask_eq_zero _ 5 (by decide)]
  rfl

theorem adjustUnused_iff (f : AdjustObjectForm) (k : Kind) : f.unused k = true
    ↔ (f.presence.getLsbD 0 = true ∧ ∀ b, k ≠ .pair b) ∨ (f.presence.getLsbD 2 = true ∧ k ≠ .coded)
      ∨ (f.presence.getLsbD 3 = true ∧ k = .coded) := by
  cases k <;> simp [AdjustObjectForm.unused, present, Kind.byte]

theorem adjustMoved_iff (f : AdjustObjectForm) : f.moved = true
    ↔ (f.presence.getLsbD 0 = true ∧ Outside 20 5000 f.transitMs.toNat)
      ∨ (f.presence.getLsbD 1 = true ∧ (f.chatterLimit.toNat = 1 ∨ 60 < f.chatterLimit.toNat))
      ∨ (f.presence.getLsbD 2 = true ∧ Outside 200 10000 f.steadyMs.toNat) := by
  rw [AdjustObjectForm.moved, Bool.or_eq_true, Bool.or_eq_true, Bool.and_eq_true, Bool.and_eq_true, Bool.and_eq_true,
    clampTransit, clampSteady, clampField_moved (by decide), clampField_moved (by decide), clampChatter_moved, or_assoc]
  rfl

/-! ### The two answers of an accepted command -/

/-- An accepted command answers ACCEPTED or ACCEPTED_CLAMPED by whether a field was moved. -/
theorem answers_acceptedCode {c : Instr} {type : Byte} {t : State} {moved : Bool} {P : Prop} (h : moved = true ↔ P)
    (answers : AnswersWith c type (acceptedCode moved) [] t s) :
    (¬ P → AnswersWith c type .accepted [] t s) ∧ (P → AnswersWith c type .acceptedClamped [] t s) :=
  ⟨fun hp => acceptedCode_kept h hp ▸ answers, fun hp => acceptedCode_moved h hp ▸ answers⟩

/-! ### Adjust Object -/

theorem urgentAfter_present {f : AdjustObjectForm} (h : f.presence.getLsbD 4 = true) (flag : f.urgent.toNat ≤ 1) :
    urgentAfter f o = true ↔ f.urgent = 1 := by
  rw [urgentAfter, present, if_pos h, flagOfByte_some flag]
  exact decide_eq_true_iff

theorem urgentAfter_absent {f : AdjustObjectForm} (h : f.presence.getLsbD 4 = false) :
    urgentAfter f o = o.cfg.urgent := by
  rw [urgentAfter, present, h]
  rfl

theorem stage_eq (f : AdjustObjectForm) (t : Staged) : f.stage t = {
    transit := if f.presence.getLsbD 0 = true then some (clamp 20 5000 f.transitMs.toNat) else t.transit
    chatter := if f.presence.getLsbD 1 = true then
      some (if f.chatterLimit.toNat = 0 then 0 else clamp 2 60 f.chatterLimit.toNat) else t.chatter
    steady := if f.presence.getLsbD 2 = true then some (clamp 200 10000 f.steadyMs.toNat) else t.steady } := by
  rw [AdjustObjectForm.stage, clampChatter_value]
  rfl

/-- The state an accepted Adjust Object leaves: one entry is asked for where the threshold is reached at once. -/
theorem applyStep_adjustStep {f : AdjustObjectForm} (n : ObjId) (o : Obj) (s : State) :
    (DueNow f o → applyStep n (adjustStep f o) s = request (.object n) .routine (s.setObject n (adjustStep f o).obj))
    ∧ (¬ DueNow f o → applyStep n (adjustStep f o) s = s.setObject n (adjustStep f o).obj) := by
  have adjusted := adjusted_adjustStep f o
  refine ⟨fun due => ?_, fun quiet => ?_⟩
  · rw [applyStep_reason (adjusted.due due).2, applied_unchanged adjusted.change]
  · rw [applyStep_silent (adjusted.quiet quiet).2, applied_unchanged adjusted.change]

/-! ### Adjust Output -/

section Output

variable {f : AdjustOutputForm} (running : s.partState = .running) (parsed : parseAdjustOutput body = some f)
include running parsed

theorem msgAdjustOutput_malformed (h : f.presence.toNat % 4 = 0) : msgAdjustOutput body s = refuse .badForm s := by
  rw [msgAdjustOutput, inRunning_pass _ running, parsed]
  exact if_pos ((and_mask_eq_zero _ 2 (by decide)).mpr h)

variable (fits : f.presence.toNat % 4 ≠ 0)
include fits

theorem msgAdjustOutput_undefined (h : s.findOutput f.number = none) : msgAdjustOutput body s = refuse .noSuch s := by
  rw [msgAdjustOutput, inRunning_pass _ running, parsed]
  simp only [h]
  exact if_neg (mt (and_mask_eq_zero _ 2 (by decide)).mp fits)

theorem msgAdjustOutput_accepted (found : s.findOutput f.number = some (i, x)) : msgAdjustOutput body s
    = done (acceptedCode ((present f.presence 0 && (clampPulse f.pulseMs).moved)
          || (present f.presence 1 && (clampProving f.provingMs).moved)))
        (s.setOutput i { x with
          stagedPulse := stage (present f.presence 0) (clampPulse f.pulseMs).value x.stagedPulse
          stagedProving := stage (present f.presence 1) (clampProving f.provingMs).value x.stagedProving }) := by
  rw [msgAdjustOutput, inRunning_pass _ running, parsed]
  simp only [found]
  exact if_neg (mt (and_mask_eq_zero _ 2 (by decide)).mp fits)

end Output

theorem outputMoved_iff (f : AdjustOutputForm) : ((present f.presence 0 && (clampPulse f.pulseMs).moved)
      || (present f.presence 1 && (clampProving f.provingMs).moved)) = true
    ↔ (f.presence.getLsbD 0 = true ∧ Outside 20 10000 f.pulseMs.toNat)
      ∨ (f.presence.getLsbD 1 = true ∧ Outside 100 60000 f.provingMs.toNat) := by
  rw [Bool.or_eq_true, Bool.and_eq_true, Bool.and_eq_true, clampPulse, clampProving, clampField_moved (by decide),
    clampField_moved (by decide)]
  rfl

/-! ### The obligation -/

/-- Settles O25: each handler's tests in their order; what an accepted Adjust Object leaves is `Adjusted`. -/
theorem adjustments : Obligations.Adjustments := by
  unfold Obligations.Adjustments
  refine ⟨fun s num pres l1 l0 ch s1 s0 v1 v0 urg ⟨ready, isRunning⟩ => ?_,
    fun s num pres p1 p0 q1 q0 ⟨ready, isRunning⟩ => ?_⟩
  · let f : AdjustObjectForm := { number := num, presence := pres, transitMs := word l1 l0, chatterLimit := ch,
                                  steadyMs := word s1 s0, service := word v1 v0, urgent := urg }
    have running := received_running isRunning
    have parsed : parseAdjustObject [num, pres, l1, l0, ch, s1, s0, v1, v0, urg] = some f := rfl
    have fitting : pres.toNat % 32 ≠ 0 → (pres.getLsbD 4 = true → urg.toNat ≤ 1) → f.badForm = false := fun some_ flag =>
      Bool.eq_false_iff.mpr (mt (adjustBadForm_iff f).mp (not_or.mpr ⟨some_, fun ⟨has, above⟩ => absurd (flag has)
        (Nat.not_le.mpr above)⟩))
    refine ⟨fun malformed => ?_, fun some_ flag undefined_ => ?_, fun n o hn found => ⟨fun unused => ?_,
      fun some_ flag pair coded uncoded => ?_⟩⟩
    · exact refuses_of (m := msgAdjustObject) ready rfl
        (msgAdjustObject_malformed running parsed ((adjustBadForm_iff f).mpr malformed))
    · exact refuses_of (m := msgAdjustObject) ready rfl (msgAdjustObject_undefined running parsed (fitting some_ flag)
        ((findObject_received num).trans (findObject_none undefined_)))
    all_goals have addressed : (received s).findObject f.number = some (n, o) :=
      (findObject_received num).trans (findObject_some hn found)
    · exact refuses_of (m := msgAdjustObject) ready rfl
        (msgAdjustObject_unused running parsed addressed ((adjustUnused_iff f o.cfg.kind).mpr unused))
    · have used : f.unused o.cfg.kind = false := by
        refine Bool.eq_false_iff.mpr (mt (adjustUnused_iff f o.cfg.kind).mp ?_)
        rintro (⟨has, none_⟩ | ⟨has, other⟩ | ⟨has, coded_⟩)
        · obtain ⟨b, hb⟩ := pair has
          exact none_ b hb
        · exact other (coded has)
        · exact uncoded has coded_
      have accepted := msgAdjustObject_accepted running parsed addressed (fitting some_ flag) used
      have adjusted := adjusted_adjustStep f o
      obtain ⟨asked, silent⟩ := applyStep_adjustStep (f := f) n o (received s)
      have both := answers_acceptedCode (adjustMoved_iff f)
        (answersWith_of (c := .adjustObject [num, pres, l1, l0, ch, s1, s0, v1, v0, urg]) ready rfl accepted)
      simp only [← word_toNat]
      refine ⟨(adjustStep f o).obj, adjusted.obj, adjusted.cfg, fun has => ?_, fun has => ?_, adjusted.service,
        adjusted.kept, adjusted.staged.trans (stage_eq f o.staged), adjusted.still,
        fun changed => ⟨adjusted.latch changed, adjusted.test changed⟩, fun due => ⟨(adjusted.due due).1, ?_⟩,
        fun quiet => ⟨(adjusted.quiet quiet).1, ?_⟩⟩
      · rw [adjusted.urgent]
        exact urgentAfter_present has (flag has)
      · rw [adjusted.urgent, urgentAfter_absent has]
      · rwa [asked due] at both
      · rwa [silent quiet] at both
  · let f : AdjustOutputForm := { number := num, presence := pres, pulseMs := word p1 p0, provingMs := word q1 q0 }
    have running := received_running isRunning
    have parsed : parseAdjustOutput [num, pres, p1, p0, q1, q0] = some f := rfl
    refine ⟨fun malformed => ?_, fun some_ undefined_ => ?_, fun i x hi found some_ => ?_⟩
    · exact refuses_of (m := msgAdjustOutput) ready rfl (msgAdjustOutput_malformed running parsed malformed)
    · exact refuses_of (m := msgAdjustOutput) ready rfl (msgAdjustOutput_undefined running parsed some_
        ((findOutput_received num).trans (findOutput_none undefined_)))
    · have addressed : (received s).findOutput f.number = some (i, x) :=
        (findOutput_received num).trans (findOutput_some hi found)
      have both := answers_acceptedCode (outputMoved_iff f) (answersWith_of (c := .adjustOutput [num, pres, p1, p0, q1, q0]) ready rfl
        (msgAdjustOutput_accepted running parsed some_ addressed))
      simp only [← word_toNat]
      exact ⟨both.2, both.1⟩

end Sys2Proof.Proofs.Adjusting
end

section
/-! Suspend Object and Resume Object. -/

namespace Sys2Proof.Proofs.Suspending

open Sys2Proof.Machine Sys2Proof.Safety Sys2Proof.Laws Sys2Proof.Proofs.Outcomes Sys2Proof.Proofs.Objects
  Sys2Proof.Proofs.Replies

variable {s : State} {n : ObjId} {o : Obj} {num : Byte}

/-! ### Suspension -/

theorem suspendedEvaluated_eq (o : Obj) : o.suspendedEvaluated = .shown o.shown := by
  unfold Obj.suspendedEvaluated
  cases h : o.evaluated
  case shown => simp [Obj.shown, h]
  all_goals rfl

/-- The record a suspension leaves (R35, R90). -/
def suspended (o : Obj) : Obj := { o with
  admission := .suspended
  evaluated := .shown o.shown
  quarantined := false
  windowCount := 0
  events := 0
  settleDeadline := none
  pair := { o.pair with transitStart := none, transitDeadline := none, conflictStart := none, conflictDeadline := none }
  code := { o.code with anchor := none, periods := [], candidate := none, steadyDeadline := none } }

theorem suspend_eq (o : Obj) : o.suspend = suspended o := by
  rw [Obj.suspend, suspendedEvaluated_eq]
  rfl

/-- A source whose entry is removed and asked for again is alone at the tail of the routine queue (R35, R93). -/
theorem request_removeEntry (src : Source) (s : State) : request src .routine (removeEntry src s) = { s with
    urgent := without s.urgent src
    routine := without s.routine src ++ [{ source := src, created := s.clock }] } := by
  exact Requests.request_routine_of_no_entry (s := removeEntry src s) (holds_without_same s.urgent src)
    (holds_without_same s.routine src)

theorem discards_iff (s : State) (n : ObjId) : (s.measure.any fun m => decide ((s.point m.point).owner = some n)) = true
    ↔ ∃ m, s.measure = some m ∧ (s.point m.point).owner = some n := by
  cases s.measure <;> simp

/-- A measurement in progress on a point of the object is discarded, another stands (R35, R148). -/
theorem measure_discardOfObject (n : ObjId) (s : State) [Decidable (∃ m, s.measure = some m
    ∧ (s.point m.point).owner = some n)] : discardOfObject n s = { s with measure :=
      if (∃ m, s.measure = some m ∧ (s.point m.point).owner = some n) then none else s.measure } := by
  unfold discardOfObject
  by_cases h : ∃ m, s.measure = some m ∧ (s.point m.point).owner = some n
  · rw [if_pos ((discards_iff s n).mpr h), if_pos h]
  · rw [if_neg (mt (discards_iff s n).mp h), if_neg h]

theorem suspend_effect (n : ObjId) (o : Obj) (s : State) [decides : Decidable (∃ m, s.measure = some m
    ∧ (s.point m.point).owner = some n)] : suspend n o s = { s.setObject n (suspended o) with
      measure := if (∃ m, s.measure = some m ∧ (s.point m.point).owner = some n) then none else s.measure
      urgent := s.urgent.filter fun e => decide (e.source ≠ .object n)
      routine := (s.routine.filter fun e => decide (e.source ≠ .object n)) ++ [{ source := .object n, created := s.clock }] } := by
  have discarded := @measure_discardOfObject n (s.setObject n (suspended o)) decides
  rw [suspend, request_removeEntry, suspend_eq, discarded]
  rfl

section Suspend

theorem msgSuspendObject_undefined (running : s.partState = .running) (h : s.findObject num = none) :
    msgSuspendObject [num] s = refuse .noSuch s := by
  rw [msgSuspendObject, inRunning_pass _ running, h]

variable (running : s.partState = .running) (found : s.findObject num = some (n, o))
include running found

theorem msgSuspendObject_already (h : o.admission = .suspended) : msgSuspendObject [num] s = done .accepted s := by
  rw [msgSuspendObject, inRunning_pass _ running, found]
  simp [h]

theorem msgSuspendObject_live (h : o.admission = .live) :
    msgSuspendObject [num] s = done .accepted (suspend n o s) := by
  rw [msgSuspendObject, inRunning_pass _ running, found]
  simp [h]

end Suspend

/-! ### Resumption -/

section Resume

theorem msgResumeObject_undefined (running : s.partState = .running) (h : s.findObject num = none) :
    msgResumeObject [num] s = refuse .noSuch s := by
  rw [msgResumeObject, inRunning_pass _ running, h]

variable (running : s.partState = .running) (found : s.findObject num = some (n, o))
include running found

theorem msgResumeObject_already (h : o.admission = .live) : msgResumeObject [num] s = done .accepted s := by
  rw [msgResumeObject, inRunning_pass _ running, found]
  simp [h]

theorem msgResumeObject_suspended (h : o.admission = .suspended) : msgResumeObject [num] s
    = done .accepted (applyStep n (resumeStep (after s.clock s.settleUnits) o) s) := by
  rw [msgResumeObject, inRunning_pass _ running, found]
  simp [h]

end Resume

/-- The pending service test of a resumption finds the threshold reached (R30, R36). -/
abbrev DueOnResume (o : Obj) : Prop :=
  o.serviceTest = true ∧ o.cfg.service ≠ 0 ∧ o.cfg.service ≤ o.opCount ∧ o.serviceLatch = false

theorem resumeStep_due (deadline : Time) (h : DueOnResume o) : resumeStep deadline o = {
    obj := { o.resume deadline with serviceLatch := true, events := o.events ||| Event.serviceDue.bit }
    reason := some .routine
    change := none } := by
  rw [resumeStep, h.1]
  exact serviceTest_due (p := { obj := o.resume deadline, reason := some .routine, change := none }) h.2

theorem resumeStep_quiet (deadline : Time) (h : ¬ DueOnResume o) :
    resumeStep deadline o = { obj := o.resume deadline, reason := some .routine, change := none } := by
  unfold resumeStep
  dsimp only
  split
  · exact serviceTest_not fun due => h ⟨‹_›, due⟩
  · rfl

/-- Settles O26: both handlers' cases, the suspension's effects one after another, and the one step of a resumption. -/
theorem suspendAndResume : Obligations.SuspendAndResume := by
  unfold Obligations.SuspendAndResume
  refine ⟨fun s num ⟨ready, isRunning⟩ => ?_, fun s num ⟨ready, isRunning⟩ => ?_⟩
  all_goals
    have running := received_running isRunning
    refine ⟨fun undefined_ => ?_, fun n o hn found => ?_⟩
  · exact refuses_of (m := msgSuspendObject) ready rfl
      (msgSuspendObject_undefined running ((findObject_received num).trans (findObject_none undefined_)))
  · have addressed : (received s).findObject num = some (n, o) := (findObject_received num).trans (findObject_some hn found)
    refine ⟨fun already => ?_, fun live => ?_⟩
    · exact answersWith_of (m := msgSuspendObject) ready rfl (msgSuspendObject_already running addressed already)
    · refine answersWith_of (m := msgSuspendObject) ready rfl ?_
      rw [msgSuspendObject_live running addressed live, suspend_effect]
      simp only [received_measure, received_point, received_clock, done]
      rfl
  · exact refuses_of (m := msgResumeObject) ready rfl
      (msgResumeObject_undefined running ((findObject_received num).trans (findObject_none undefined_)))
  · have addressed : (received s).findObject num = some (n, o) := (findObject_received num).trans (findObject_some hn found)
    refine ⟨fun already => ?_, fun asleep => ⟨fun quiet => ?_, fun due => ?_⟩⟩
    · exact answersWith_of (m := msgResumeObject) ready rfl (msgResumeObject_already running addressed already)
    all_goals
      have resumed := msgResumeObject_suspended running addressed asleep
      refine answersWith_of (m := msgResumeObject) ready rfl (resumed.trans ?_)
    · rw [resumeStep_quiet _ quiet, applyStep_reason rfl, applied_unchanged rfl, State.settleUnits, received_clock,
        received_timing]
      rfl
    · rw [resumeStep_due _ due, applyStep_reason rfl, applied_unchanged rfl, State.settleUnits, received_clock,
        received_timing]
      rfl

end Sys2Proof.Proofs.Suspending
end

section
/-! Define Object and Define Output. -/

namespace Sys2Proof.Proofs.Defining

open Sys2Proof.Machine Sys2Proof.Safety Sys2Proof.Laws Sys2Proof.Proofs.Replies Sys2Proof.Proofs.Adjusting

variable {s t : State} {n : ObjId} {i : OutId} {body : List Byte}

/-! ### Fields -/

theorem clampTag_moved (w : Word16) : (clampTag w).moved = true ↔ 4095 < w.toNat := by
  rw [clampTag, clampField_moved (by decide)]
  simp

theorem clampTransit_moved (w : Word16) : (clampTransit w).moved = true ↔ Outside 20 5000 w.toNat :=
  clampField_moved (by decide)

theorem clampSteady_moved (w : Word16) : (clampSteady w).moved = true ↔ Outside 200 10000 w.toNat :=
  clampField_moved (by decide)

/-- An optional field is moved where it is present and its value is; a default never is. -/
theorem optional_moved (has : Bool) (c : Clamped) (v : Nat) :
    (if has then c else { value := v, moved := false }).moved = true ↔ has = true ∧ c.moved = true := by
  cases has <;> simp

theorem ifUsed_moved (uses : Bool) (c : Clamped) : (ifUsed uses c).moved = true ↔ uses = true ∧ c.moved = true := by
  cases uses <;> simp [ifUsed]

theorem objectNumber_none {b : Byte} (h : 127 < b.toNat) : objectNumber b = none := dif_neg (by omega)

/-! ### Objects -/

section Objects

variable {f : ObjectForm}

theorem byte_kind_given (h : ObjectFits f) : (objectGiven f).kind.byte = f.kind := by
  have h0 := byte_eq_iff f.kind 0 (by decide)
  have h1 := byte_eq_iff f.kind 1 (by decide)
  have h2 := byte_eq_iff f.kind 2 (by decide)
  unfold objectGiven
  by_cases zero : f.kind = 0
  · simp [zero, Kind.byte]
  · by_cases one : f.kind = 1
    · simp [one, Kind.byte]
    · have two : f.kind = 2 := h2.mpr (by
        have := mt h0.mpr zero
        have := mt h1.mpr one
        have := h.1
        omega)
      simp [two, Kind.byte]

/-- The clamping of a definition, by the fields the kind uses (R18, log 25). -/
theorem definition_moved (h : ObjectFits f) (urgent : Bool) : (f.definition (objectGiven f).kind urgent).moved = true
    ↔ 4095 < f.tag.toNat ∨ (f.kind = 1 ∧ f.presence.getLsbD 0 = true ∧ Outside 20 5000 f.transitMs.toNat)
      ∨ (f.presence.getLsbD 1 = true ∧ (f.chatterLimit.toNat = 1 ∨ 60 < f.chatterLimit.toNat))
      ∨ (f.kind = 2 ∧ f.presence.getLsbD 2 = true ∧ Outside 200 10000 f.steadyMs.toNat) := by
  simp only [ObjectForm.definition, Bool.or_eq_true, clampTag_moved, ifUsed_moved, optional_moved, byte_kind_given h,
    decide_eq_true_iff, clampTransit_moved, clampSteady_moved, clampChatter_moved, or_assoc]
  exact Iff.rfl

/-- The points a definition would take have an owner already. -/
abbrev Taken (f : ObjectForm) (s : State) : Prop :=
  (s.point (pointNumber f.pointA)).owner ≠ none ∨ (f.kind = 1 ∧ (s.point (pointNumber f.pointB)).owner ≠ none)

theorem owned_given (f : ObjectForm) (s : State) : (objectGiven f).points.any s.owned = true ↔ Taken f s := by
  rw [points_given, Taken]
  by_cases pair : f.kind = 1
  · simp [State.owned, Option.isSome_iff_ne_none, pair]
  · rw [if_neg pair]
    simp only [State.owned, List.any_cons, List.any_nil, Bool.or_false, Option.isSome_iff_ne_none, pair, false_and,
      or_false]

theorem defineObjectForm_malformed (h : ¬ ObjectFits f) : defineObjectForm f s = .error .badForm := by
  unfold defineObjectForm
  rcases kindOf_none h with h | h
  · rw [h]
  · rw [h]
    cases f.kindOf <;> rfl

theorem defineObjectForm_noSuch (h : ObjectFits f) (k : 127 < f.number.toNat) :
    defineObjectForm f s = .error .noSuch := by
  rw [defineObjectForm, kindOf_some h, flagOfByte_some h.2.2.2, objectNumber_none k]

theorem defineObjectForm_eq (h : ObjectFits f) (hn : n.val = f.number.toNat) : defineObjectForm f s
    = if (s.object n).isSome || (objectGiven f).points.any s.owned then .error .inUse
      else .ok (addObject n (objectGiven f) s, (f.definition (objectGiven f).kind (decide (f.urgent = 1))).moved) := by
  rw [defineObjectForm, kindOf_some h, flagOfByte_some h.2.2.2, objectNumber_of hn]
  simp only [definition_eq h]

theorem defineObjectForm_inUse (h : ObjectFits f) (hn : n.val = f.number.toNat) (k : s.object n ≠ none ∨ Taken f s) :
    defineObjectForm f s = .error .inUse := by
  rw [defineObjectForm_eq h hn, if_pos]
  rwa [Bool.or_eq_true, Option.isSome_iff_ne_none, owned_given]

theorem defineObjectForm_defined (h : ObjectFits f) (hn : n.val = f.number.toNat) (free : s.object n = none)
    (k : ¬ Taken f s) : defineObjectForm f s
    = .ok (addObject n (objectGiven f) s, (f.definition (objectGiven f).kind (decide (f.urgent = 1))).moved) := by
  rw [defineObjectForm_eq h hn, if_neg]
  rw [Bool.or_eq_true, Option.isSome_iff_ne_none, owned_given]
  exact not_or.mpr ⟨not_not.mpr free, k⟩

theorem msgDefineObject_eq (configuring : s.partState = .configuring) (parsed : parseDefineObject body = some f) :
    msgDefineObject body s = defined (defineObjectForm f s) s := by
  rw [msgDefineObject, inConfiguring_pass _ configuring, parsed]

end Objects

/-- Settles O27: the tests of the definition in their order, then the record and the points it leaves. -/
theorem defineObject : Obligations.DefineObject := by
  unfold Obligations.DefineObject
  intro s num kind a b sense t1 t0 urg pres l1 l0 ch s1 s0 v1 v0 ⟨ready, isConfiguring⟩
  let f : ObjectForm := { number := num, kind := kind, pointA := a, pointB := b, sense := sense, tag := word t1 t0,
                          urgent := urg, presence := pres, transitMs := word l1 l0, chatterLimit := ch,
                          steadyMs := word s1 s0, service := word v1 v0 }
  have handled := msgDefineObject_eq (f := f) (received_configuring isConfiguring)
    (body := [num, kind, a, b, sense, t1, t0, urg, pres, l1, l0, ch, s1, s0, v1, v0]) rfl
  refine ⟨fun malformed => ?_, fun fits above => ?_, fun n hn fits => ⟨fun taken => ?_, fun free pointA pointB => ?_⟩⟩
  · rw [defineObjectForm_malformed (f := f) malformed] at handled
    exact refuses_of ready rfl handled
  · rw [defineObjectForm_noSuch (f := f) fits above] at handled
    exact refuses_of ready rfl handled
  · rw [defineObjectForm_inUse (f := f) fits hn (by rwa [Taken, received_object, received_point, received_point])] at handled
    exact refuses_of ready rfl handled
  · have points : ¬ Taken f (received s) := by
      rw [Taken, received_point, received_point]
      exact not_or.mpr ⟨pointA, fun ⟨one, taken⟩ => pointB one taken⟩
    rw [defineObjectForm_defined (f := f) fits hn (by simpa using free) points] at handled
    have both := answers_acceptedCode (definition_moved (f := f) fits _) (answersWith_of ready
      (c := .defineObject [num, kind, a, b, sense, t1, t0, urg, pres, l1, l0, ch, s1, s0, v1, v0]) rfl handled)
    obtain ⟨others, record, rest, owners⟩ := addObject_defines (n := n) (f := f) (s := received s) fits
    have limit : ch = 0 ↔ ch.toNat = 0 := byte_eq_iff ch 0 (by decide)
    simp only [← word_toNat]
    refine ⟨_, ⟨both.2, both.1⟩, others, fun m hm => ?_, fun p => ?_, ?_⟩
    · rw [rest m hm, received_object]
    · rw [owners p, received_point]
    · rw [record]
      simp only [← limit]
      rfl

/-! ### Outputs -/

section Outputs

variable {f : OutputForm}

theorem outputDefinition_moved (f : OutputForm) : f.definition.moved = true
    ↔ 4095 < f.tag.toNat ∨ (f.presence.getLsbD 2 = true ∧ Outside 20 10000 f.pulseMs.toNat)
      ∨ (f.presence.getLsbD 3 = true ∧ Outside 100 60000 f.provingMs.toNat) := by
  have pulse : (clampPulse f.pulseMs).moved = true ↔ Outside 20 10000 f.pulseMs.toNat := clampField_moved (by decide)
  have proving : (clampProving f.provingMs).moved = true ↔ Outside 100 60000 f.provingMs.toNat :=
    clampField_moved (by decide)
  simp only [OutputForm.definition, Bool.or_eq_true, clampTag_moved, optional_moved, pulse, proving, or_assoc]
  exact Iff.rfl

/-- Test 3 of R111 is passed. -/
abbrev Fits (f : OutputForm) : Prop := f.mode.toNat ≤ 1 ∧ (f.presence.getLsbD 0 = true → f.partner ≠ f.number)
  ∧ (f.presence.getLsbD 1 = true → NamesExpected f.expected)

/-- Test 4 of R111 is passed. -/
abbrev InRange (f : OutputForm) : Prop := f.number.toNat ≤ 63 ∧ (f.presence.getLsbD 0 = true → f.partner.toNat ≤ 63)
  ∧ (f.presence.getLsbD 1 = true → f.proving.toNat ≤ 127)

theorem badForm_eq_true : f.badForm = true ↔ ¬ Fits f := by
  simp only [badForm_iff, Fits, not_and_or, Nat.not_le, Classical.not_imp, ne_eq, not_not]

theorem outOfRange_eq_true : f.outOfRange = true ↔ ¬ InRange f := by
  rw [outOfRange_iff, InRange, not_and_or, not_and_or, Classical.not_imp, Classical.not_imp, Nat.not_le, Nat.not_le,
    Nat.not_le]

theorem defineOutputForm_malformed (h : ¬ Fits f) : defineOutputForm f s = .error .badForm :=
  if_pos (badForm_eq_true.mpr h)

theorem defineOutputForm_noSuch (h : Fits f) (k : ¬ InRange f) : defineOutputForm f s = .error .noSuch := by
  rw [defineOutputForm, if_neg (mt badForm_eq_true.mp (not_not.mpr h)), if_pos (outOfRange_eq_true.mpr k)]

theorem defineOutputForm_eq (h : Fits f) (k : InRange f) (hi : i.val = f.number.toNat) : defineOutputForm f s
    = if (s.output i).isSome then .error .inUse
      else .ok ((s.setOutput i (Output.define f.definition.cfg)).setProof i Proof.reset, f.definition.moved) := by
  rw [defineOutputForm, if_neg (mt badForm_eq_true.mp (not_not.mpr h)), if_neg (mt outOfRange_eq_true.mp (not_not.mpr k)),
    outputNumber_of hi]

theorem defineOutputForm_inUse (h : Fits f) (k : InRange f) (hi : i.val = f.number.toNat) (held : s.output i ≠ none) :
    defineOutputForm f s = .error .inUse := by
  rw [defineOutputForm_eq h k hi, if_pos (Option.isSome_iff_ne_none.mpr held)]

theorem defineOutputForm_defined (h : Fits f) (k : InRange f) (hi : i.val = f.number.toNat) (free : s.output i = none) :
    ∃ t, defineOutputForm f s = .ok (t, f.definition.moved) ∧ DefinesOutput f i s t := by
  have accepted : ¬ OutputRefused s f := by
    rw [outputRefused_iff, badForm_eq_true, outOfRange_eq_true, not_or, not_or, not_not, not_not]
    exact ⟨h, k, fun ⟨j, hj, held⟩ => held (Fin.ext (hj.trans hi.symm) ▸ free)⟩
  obtain ⟨t, moved, taken, defines⟩ := defineOutputForm_taken accepted hi
  refine ⟨t, ?_, defines⟩
  rw [defineOutputForm_eq h k hi, free] at taken ⊢
  cases taken
  rfl

theorem msgDefineOutput_eq (configuring : s.partState = .configuring) (parsed : parseDefineOutput body = some f) :
    msgDefineOutput body s = defined (defineOutputForm f s) s := by
  rw [msgDefineOutput, inConfiguring_pass _ configuring, parsed]

end Outputs

/-- Settles O28: the tests of the definition in their order, then the record and the proof record it leaves. -/
theorem defineOutput : Obligations.DefineOutput := by
  unfold Obligations.DefineOutput
  intro s num t1 t0 mode pres partner proving expected p1 p0 q1 q0 ⟨ready, isConfiguring⟩
  let f : OutputForm := { number := num, tag := word t1 t0, mode := mode, presence := pres, partner := partner,
                          proving := proving, expected := expected, pulseMs := word p1 p0, provingMs := word q1 q0 }
  have handled := msgDefineOutput_eq (f := f) (received_configuring isConfiguring)
    (body := [num, t1, t0, mode, pres, partner, proving, expected, p1, p0, q1, q0]) rfl
  refine ⟨fun malformed => ?_, fun fits above => ?_, fun i hi fits range_ => ⟨fun held => ?_, fun free => ?_⟩⟩
  · rw [defineOutputForm_malformed (f := f) malformed] at handled
    exact refuses_of ready rfl handled
  · rw [defineOutputForm_noSuch (f := f) fits above] at handled
    exact refuses_of ready rfl handled
  · rw [defineOutputForm_inUse (f := f) fits range_ hi (by simpa using held)] at handled
    exact refuses_of ready rfl handled
  · obtain ⟨t, taken, others, ⟨d, gives, record⟩, proof, rest⟩ := defineOutputForm_defined (f := f) (s := received s) fits
      range_ hi (by simpa using free)
    rw [taken] at handled
    have both := answers_acceptedCode (outputDefinition_moved f) (answersWith_of ready
      (c := .defineOutput [num, t1, t0, mode, pres, partner, proving, expected, p1, p0, q1, q0]) rfl handled)
    simp only [← word_toNat]
    refine ⟨t, _, ⟨both.2, both.1⟩, others, fun j hj => ?_, proof, record, rfl, gives.tag, gives.mode, gives.pulse,
      gives.time, fun absent => ?_, fun present_ => ?_, fun absent => ?_, fun present_ => ?_⟩
    · rw [(rest j hj).1, (rest j hj).2, received_output, received_proof]
      exact ⟨rfl, rfl⟩
    · exact (if_neg (by simpa using absent)).mp gives.partner
    · exact (if_pos present_).mp gives.partner
    · exact (if_neg (by simpa using absent)).mp gives.proving
    · exact (if_pos present_).mp gives.proving

end Sys2Proof.Proofs.Defining
end

section
/-! The settings: Set Bands, Set Group, Set Part Timing, Set Reporting and Set Survey. -/

namespace Sys2Proof.Proofs.Settings

open Sys2Proof.Machine Sys2Proof.Safety Sys2Proof.Laws Sys2Proof.Proofs.Replies Sys2Proof.Proofs.Adjusting
  Sys2Proof.Proofs.Defining

variable {s t : State} {body : List Byte}

/-! ### The slots of a band table -/

theorem drop_eq_getD_cons {l : List Byte} {k : Nat} (h : k < l.length) : l.drop k = l.getD k 0 :: l.drop (k + 1) := by
  rw [List.drop_eq_getElem_cons h, List.getD_eq_getElem _ _ h]

/-- Slot i of a body of the right length, by its five bytes. -/
theorem bandSlot_eq (h : body.length = 40) (i : Fin 8) : bandSlot body i = if (body.getD (5 * i.val) 0).getLsbD 0 = true
    then some (word (body.getD (5 * i.val + 1) 0) (body.getD (5 * i.val + 2) 0),
      word (body.getD (5 * i.val + 3) 0) (body.getD (5 * i.val + 4) 0))
    else none := by
  have := i.isLt
  rw [bandSlot, drop_eq_getD_cons (by omega), drop_eq_getD_cons (by omega), drop_eq_getD_cons (by omega),
    drop_eq_getD_cons (by omega), drop_eq_getD_cons (by omega)]
  rfl

section Table

variable {table : Vector (Option Band) 8} {has : Fin 8 → Bool} {low high : Fin 8 → Nat}
  (slots : ∀ i, table.get i = if has i = true then some { min := low i, max := high i } else none)
include slots

theorem bandsInverted_iff : bandsInverted table = true ↔ ∃ i, has i = true ∧ high i < low i := by
  rw [bandsInverted, List.any_eq_true]
  refine exists_congr fun i => ?_
  rw [slots i]
  cases has i <;> simp

theorem bandsOverlap_iff : bandsOverlap table = true
    ↔ ∃ i j, i ≠ j ∧ has i = true ∧ has j = true ∧ low i ≤ high j ∧ low j ≤ high i := by
  have pair : bandsOverlap table = true
      ↔ ∃ i j, i < j ∧ has i = true ∧ has j = true ∧ low i ≤ high j ∧ low j ≤ high i := by
    simp only [bandsOverlap, List.any_eq_true, List.mem_finRange, true_and, Bool.and_eq_true, decide_eq_true_iff]
    refine exists_congr fun i => exists_congr fun j => and_congr_right fun _ => ?_
    rw [slots i, slots j]
    cases has i <;> cases has j <;> simp [Band.overlaps]
  rw [pair]
  constructor
  · rintro ⟨i, j, before, h⟩
    exact ⟨i, j, ne_of_lt before, h⟩
  · rintro ⟨i, j, apart, hi, hj, h, k⟩
    rcases lt_or_gt_of_ne apart with before | after
    · exact ⟨i, j, before, hi, hj, h, k⟩
    · exact ⟨j, i, after, hj, hi, k, h⟩

end Table

/-! ### Set Bands -/

section Bands

variable {f : Vector BandForm 8} (configuring : s.partState = .configuring) (parsed : parseSetBands body = some f)
include configuring parsed

theorem msgSetBands_inverted (h : bandsInverted (f.map bandOf) = true) : msgSetBands body s = refuse .badForm s := by
  rw [msgSetBands, inConfiguring_pass _ configuring, parsed]
  simp only [bandTable, h, if_true]

variable (upright : bandsInverted (f.map bandOf) = false)
include upright

theorem msgSetBands_overlap (h : bandsOverlap (f.map bandOf) = true) : msgSetBands body s = refuse .overlap s := by
  rw [msgSetBands, inConfiguring_pass _ configuring, parsed]
  simp only [bandTable, upright, h, if_true, Bool.false_eq_true, if_false]

theorem msgSetBands_accepted (h : bandsOverlap (f.map bandOf) = false) : msgSetBands body s
    = done (acceptedCode (f.toList.any bandMoved)) { s with bands := f.map bandOf } := by
  rw [msgSetBands, inConfiguring_pass _ configuring, parsed]
  simp only [bandTable, upright, h, Bool.false_eq_true, if_false]

end Bands

theorem bandMoved_iff {has : Prop} [Decidable has] {lo hi : Word16} :
    bandMoved (if has then some (lo, hi) else none) = true ↔ has ∧ (Outside 1 999 lo.toNat ∨ Outside 1 999 hi.toNat) := by
  by_cases h : has
  · rw [if_pos h, bandMoved, Option.any_some, Bool.or_eq_true, clampRate, clampRate, clampField_moved (by decide),
      clampField_moved (by decide)]
    simp [h]
  · simp [h, bandMoved]

/-- Settles O29: the table the slots give, its two tests, and the clamping of its limits. -/
theorem setBands : Obligations.SetBands := by
  unfold Obligations.SetBands
  intro s body ⟨ready, isConfiguring⟩ length
  have configuring := received_configuring isConfiguring
  have parsed : parseSetBands body = some (Vector.ofFn (bandSlot body)) := if_pos length
  have given : ∀ i, (Vector.ofFn (bandSlot body)).get i = bandSlot body i := get_ofFn _
  intro at_ has lowIn highIn low high inverted shared moved
  have slots : ∀ i, ((Vector.ofFn (bandSlot body)).map bandOf).get i
      = if has i = true then some { min := low i, max := high i } else none := by
    intro i
    rw [tableOf_bands, given, bandSlot_eq length]
    split
    · rw [Option.map_some, word_toNat, word_toNat]
    · rfl
  have moves : (Vector.ofFn (bandSlot body)).toList.any bandMoved = true ↔ moved := by
    simp only [Vector.toList_ofFn, List.any_eq_true, List.mem_ofFn, exists_exists_eq_and]
    refine exists_congr fun i => ?_
    rw [bandSlot_eq length, bandMoved_iff, word_toNat, word_toNat]
  have upright : ¬ inverted → bandsInverted ((Vector.ofFn (bandSlot body)).map bandOf) = false := fun h =>
    Bool.eq_false_iff.mpr (mt (bandsInverted_iff slots).mp h)
  refine ⟨fun h => ?_, fun h k => ?_, fun h k => ?_⟩
  · exact refuses_of (m := msgSetBands) ready rfl
      (msgSetBands_inverted configuring parsed ((bandsInverted_iff slots).mpr h))
  · exact refuses_of (m := msgSetBands) ready rfl
      (msgSetBands_overlap configuring parsed (upright h) ((bandsOverlap_iff slots).mpr k))
  · have both := answers_acceptedCode moves (answersWith_of (c := .setBands body) ready rfl
      (msgSetBands_accepted configuring parsed (upright h) (Bool.eq_false_iff.mpr (mt (bandsOverlap_iff slots).mp k))))
    exact ⟨_, ⟨both.2, both.1⟩, rfl, slots⟩

/-! ### Set Group -/

theorem groupNumber_of {b : Byte} {g : GroupId} (h : g.val = b.toNat) : groupNumber b = some g := by
  rw [groupNumber, dif_pos (by omega)]
  exact congrArg some (Fin.ext h.symm)

theorem groupNumber_none {b : Byte} (h : 15 < b.toNat) : groupNumber b = none := dif_neg (by omega)

theorem groupMoved_iff (f : GroupForm) :
    f.moved = true ↔ Outside 1 50 f.filterMs.toNat ∨ Outside 100 10000 f.refRes.toNat := by
  rw [GroupForm.moved, Bool.or_eq_true, clampFilter, clampRefRes, clampField_moved (by decide),
    clampField_moved (by decide)]

theorem measuresIn_iff (g : GroupId) (s : State) : (s.measure.any fun m => decide (groupOf m.point = g)) = true
    ↔ ∃ m, s.measure = some m ∧ groupOf m.point = g := by
  cases s.measure <;> simp

theorem discardInGroup_eq (g : GroupId) (s : State) [Decidable (∃ m, s.measure = some m ∧ groupOf m.point = g)] :
    discardInGroup g s = { s with measure :=
      if (∃ m, s.measure = some m ∧ groupOf m.point = g) then none else s.measure } := by
  unfold discardInGroup
  by_cases h : ∃ m, s.measure = some m ∧ groupOf m.point = g
  · rw [if_pos ((measuresIn_iff g s).mpr h), if_pos h]
  · rw [if_neg (mt (measuresIn_iff g s).mp h), if_neg h]

/-- A group set, with the measurement in progress in it discarded, in the state the command is received in. -/
theorem discardInGroup_setGroup (g : GroupId) (x : Group) (s : State)
    [decides : Decidable (∃ m, s.measure = some m ∧ groupOf m.point = g)] :
    discardInGroup g ((received s).setGroup g x) = { (received s).setGroup g x with measure :=
      if (∃ m, s.measure = some m ∧ groupOf m.point = g) then none else s.measure } := by
  have same : ((received s).setGroup g x).measure = s.measure := by
    change (received s).measure = s.measure
    simp
  have decides' : Decidable (∃ m, ((received s).setGroup g x).measure = some m ∧ groupOf m.point = g) := by
    rwa [same]
  rw [discardInGroup_eq]
  simp only [same]

theorem msgSetGroup_malformed (loaded : s.partState ≠ .loading) (h : parseSetGroup body = none) :
    msgSetGroup body s = refuse .badForm s := by
  rw [msgSetGroup, afterLoading_pass _ loaded, h]

theorem msgSetGroup_noSuch (loaded : s.partState ≠ .loading) {b : Byte} {f : GroupForm}
    (parsed : parseSetGroup body = some (b, f)) (h : groupNumber b = none) : msgSetGroup body s = refuse .noSuch s := by
  rw [msgSetGroup, afterLoading_pass _ loaded, parsed]
  simp only [h]

theorem msgSetGroup_accepted (loaded : s.partState ≠ .loading) {b : Byte} {f : GroupForm} {g : GroupId}
    (parsed : parseSetGroup body = some (b, f)) (h : groupNumber b = some g) :
    msgSetGroup body s = done (acceptedCode f.moved) (discardInGroup g (s.setGroup g f.group)) := by
  rw [msgSetGroup, afterLoading_pass _ loaded, parsed]
  simp only [h]

/-! ### Set Part Timing -/

section Timing

variable {p : Byte} {f : TimingForm} (loaded : s.partState ≠ .loading) (parsed : parseSetPartTiming body = some (p, f))
include loaded parsed

theorem msgSetPartTiming_malformed (h : p.toNat % 16 = 0) : msgSetPartTiming body s = refuse .badForm s := by
  rw [msgSetPartTiming, afterLoading_pass _ loaded, parsed]
  exact if_pos ((and_mask_eq_zero p 4 (by decide)).mpr h)

variable (some_ : p.toNat % 16 ≠ 0)
include some_

theorem msgSetPartTiming_eq : msgSetPartTiming body s
    = if s.partState = .running ∧ p &&& 0x07 ≠ 0 then refuse .wrongState s
      else done (acceptedCode (f.moved p)) { s with timing := f.apply p s.timing } := by
  rw [msgSetPartTiming, afterLoading_pass _ loaded, parsed]
  exact if_neg (mt (and_mask_eq_zero p 4 (by decide)).mp some_)

end Timing

/-- None of the first three fields is present. -/
theorem and_seven (p : Byte) :
    p &&& 0x07 = 0 ↔ p.getLsbD 0 = false ∧ p.getLsbD 1 = false ∧ p.getLsbD 2 = false := by
  revert p
  decide +kernel

theorem timingMoved_iff (f : TimingForm) (p : Byte) : f.moved p = true
    ↔ (p.getLsbD 0 = true ∧ Outside 200 10000 f.settleInMs.toNat) ∨ (p.getLsbD 1 = true ∧ Outside 10 500 f.conflictMs.toNat)
      ∨ (p.getLsbD 2 = true ∧ Outside 1 10 f.windowS.toNat) ∨ (p.getLsbD 3 = true ∧ Outside 500 30000 f.silenceMs.toNat) := by
  simp only [TimingForm.moved, Bool.or_eq_true, Bool.and_eq_true, clampSettle, clampConflict, clampWindow, clampSilence,
    or_assoc]
  rw [clampField_moved (by decide), clampField_moved (by decide), clampField_moved (by decide),
    clampField_moved (by decide)]
  exact Iff.rfl

/-- Settles O30: both handlers' tests in their order, and the clamping of each field. -/
theorem setGroupAndTiming : Obligations.SetGroupAndTiming := by
  unfold Obligations.SetGroupAndTiming
  refine ⟨fun s g f e r1 r0 ⟨ready, loaded⟩ => ?_, fun s pres a1 a0 c1 c0 w d1 d0 ⟨ready, loaded⟩ => ?_⟩
  · have isLoaded := received_loaded loaded
    have parsed : e.toNat ≤ 1 → parseSetGroup [g, f, e, r1, r0]
        = some (g, { filterMs := f, survey := decide (e = 1), refRes := word r1 r0 }) := fun h => by
      rw [parseSetGroup, flagOfByte_some h]
      rfl
    refine ⟨fun above => ?_, fun named above => ?_, fun k hk named => ?_⟩
    · refine refuses_of (m := msgSetGroup) ready rfl (msgSetGroup_malformed isLoaded ?_)
      rw [parseSetGroup, (flag_none_iff e).mpr above]
      rfl
    · exact refuses_of (m := msgSetGroup) ready rfl (msgSetGroup_noSuch isLoaded (parsed named) (groupNumber_none above))
    · have accepted := msgSetGroup_accepted isLoaded (parsed named) (groupNumber_of hk)
      rw [discardInGroup_setGroup] at accepted
      have both := answers_acceptedCode (groupMoved_iff _) (answersWith_of (c := .setGroup [g, f, e, r1, r0]) ready rfl
        accepted)
      simp only [← word_toNat]
      exact ⟨both.2, both.1⟩
  · have isLoaded := received_loaded loaded
    let f : TimingForm := { settleInMs := word a1 a0, conflictMs := word c1 c0, windowS := w, silenceMs := word d1 d0 }
    have parsed : parseSetPartTiming [pres, a1, a0, c1, c0, w, d1, d0] = some (pres, f) := rfl
    refine ⟨fun none_ => ?_, fun some_ forbidden => ?_, fun some_ allowed => ?_⟩
    · exact refuses_of (m := msgSetPartTiming) ready rfl (msgSetPartTiming_malformed isLoaded parsed none_)
    all_goals have handled := msgSetPartTiming_eq isLoaded parsed some_
    · rw [if_pos] at handled
      · exact refuses_of (m := msgSetPartTiming) ready rfl handled
      · rw [received_partState, ne_eq, and_seven]
        exact Classical.not_imp.mp forbidden
    · rw [if_neg, received_timing] at handled
      · have both := answers_acceptedCode (timingMoved_iff f pres)
          (answersWith_of (c := .setPartTiming [pres, a1, a0, c1, c0, w, d1, d0]) ready rfl handled)
        simp only [← word_toNat]
        exact ⟨both.2, both.1⟩
      · rw [received_partState, ne_eq, and_seven]
        exact fun ⟨running, some_⟩ => some_ (allowed running)

/-! ### Set Reporting -/

theorem ratioOfByte_spec (b : Byte) : (ratioOfByte b).map RatioMode.byte = if b.toNat ≤ 3 then some b else none := by
  revert b
  decide +kernel

theorem positionOfByte_spec (b : Byte) :
    (positionOfByte b).map SummaryPos.byte = if b.toNat ≤ 1 then some b else none := by
  revert b
  decide +kernel

/-- An optional named field is read exactly where its byte names a value or it is absent. -/
theorem namedField_eq {α : Type} {code : α → Byte} {value : Option α} {b : Byte} {limit : Nat}
    (spec : value.map code = if b.toNat ≤ limit then some b else none) (has : Bool) :
    ((has = true → b.toNat ≤ limit) → ∃ v, namedField has value = some v ∧ (has = false → v = none)
      ∧ (has = true → ∃ x, v = some x ∧ code x = b))
    ∧ (¬ (has = true → b.toNat ≤ limit) → namedField has value = none) := by
  cases has with
  | false => exact ⟨fun _ => ⟨none, rfl, fun _ => rfl, nofun⟩, fun h => absurd nofun h⟩
  | true =>
    refine ⟨fun named => ?_, fun h => ?_⟩
    · rw [if_pos (named rfl)] at spec
      obtain ⟨x, hx, code_⟩ := Option.map_eq_some_iff.mp spec
      exact ⟨some x, by rw [hx]; rfl, nofun, fun _ => ⟨x, rfl, code_⟩⟩
    · rw [if_neg fun named => h fun _ => named, Option.map_eq_none_iff] at spec
      rw [spec]
      rfl

section Reporting

variable {p r q : Byte} (loaded : s.partState ≠ .loading)
include loaded

theorem msgSetReporting_none (h : p.toNat % 4 = 0) : msgSetReporting [p, r, q] s = refuse .badForm s := by
  rw [msgSetReporting, afterLoading_pass _ loaded]
  exact if_pos ((and_mask_eq_zero p 2 (by decide)).mpr h)

variable (some_ : p.toNat % 4 ≠ 0)
include some_

theorem msgSetReporting_malformed
    (h : namedField (present p 0) (ratioOfByte r) = none ∨ namedField (present p 1) (positionOfByte q) = none) :
    msgSetReporting [p, r, q] s = refuse .badForm s := by
  rw [msgSetReporting, afterLoading_pass _ loaded]
  refine (if_neg (mt (and_mask_eq_zero p 2 (by decide)).mp some_)).trans ?_
  rcases h with h | h
  · rw [h]
  · rw [h]
    cases namedField (present p 0) (ratioOfByte r) <;> rfl

theorem msgSetReporting_accepted {mode : Option RatioMode} {pos : Option SummaryPos}
    (hm : namedField (present p 0) (ratioOfByte r) = some mode)
    (hp : namedField (present p 1) (positionOfByte q) = some pos) :
    msgSetReporting [p, r, q] s = done .accepted (setPosition pos (setRatio mode s)) := by
  rw [msgSetReporting, afterLoading_pass _ loaded]
  refine (if_neg (mt (and_mask_eq_zero p 2 (by decide)).mp some_)).trans ?_
  rw [hm, hp]

end Reporting

/-- The reporting settings and the urgent run may differ, nothing else. -/
def ReportingOnly (s t : State) : Prop := t = { s with reporting := t.reporting, urgentRun := t.urgentRun }

theorem reportingOnly_set (mode : Option RatioMode) (pos : Option SummaryPos) (s : State) :
    ReportingOnly s (setPosition pos (setRatio mode s)) := by
  cases mode <;> cases pos <;> rfl

theorem setRatio_setPosition_some (m : RatioMode) (pos : Option SummaryPos) (s : State) :
    (setPosition pos (setRatio (some m) s)).reporting.ratio = m
      ∧ (setPosition pos (setRatio (some m) s)).urgentRun = 0 := by
  cases pos <;> exact ⟨rfl, rfl⟩

theorem setRatio_setPosition_none (pos : Option SummaryPos) (s : State) :
    (setPosition pos (setRatio none s)).reporting.ratio = s.reporting.ratio
      ∧ (setPosition pos (setRatio none s)).urgentRun = s.urgentRun := by
  cases pos <;> exact ⟨rfl, rfl⟩

theorem position_setPosition_none (mode : Option RatioMode) (s : State) :
    (setPosition none (setRatio mode s)).reporting.position = s.reporting.position := by
  cases mode <;> rfl

/-! ### Set Survey -/

section Survey

variable {p : Byte} {f : SurveyForm} (loaded : s.partState ≠ .loading) (parsed : parseSetSurvey body = some (p, f))
include loaded parsed

theorem msgSetSurvey_malformed (h : p.toNat % 8 = 0) : msgSetSurvey body s = refuse .badForm s := by
  rw [msgSetSurvey, afterLoading_pass _ loaded, parsed]
  exact if_pos ((and_mask_eq_zero p 3 (by decide)).mpr h)

theorem msgSetSurvey_accepted (some_ : p.toNat % 8 ≠ 0) : msgSetSurvey body s
    = done (acceptedCode (f.moved p s.surveySet)) { s with surveySet := f.apply p s.surveySet } := by
  rw [msgSetSurvey, afterLoading_pass _ loaded, parsed]
  exact if_neg (mt (and_mask_eq_zero p 3 (by decide)).mp some_)

end Survey

theorem ordered_eq (x : SurveySettings) :
    x.ordered = { x with clear := if x.degrade ≤ x.clear then x.degrade - 1 else x.clear } := by
  unfold SurveySettings.ordered
  split <;> rfl

theorem surveyMoved_iff (f : SurveyForm) (p : Byte) (old : SurveySettings) : f.moved p old = true
    ↔ (p.getLsbD 0 = true ∧ Outside 50 60000 f.intervalMs.toNat) ∨ (p.getLsbD 1 = true ∧ Outside 1 65534 f.degrade.toNat)
      ∨ (p.getLsbD 2 = true ∧ 65533 < f.clear.toNat) ∨ (f.set p old).degrade ≤ (f.set p old).clear := by
  have interval : (clampInterval f.intervalMs).moved = true ↔ Outside 50 60000 f.intervalMs.toNat :=
    clampField_moved (by decide)
  have degrade : (clampDegrade f.degrade).moved = true ↔ Outside 1 65534 f.degrade.toNat := clampField_moved (by decide)
  have clear : (clampClear f.clear).moved = true ↔ 65533 < f.clear.toNat :=
    (clampField_moved (by decide)).trans (by simp)
  simp only [SurveyForm.moved, Bool.or_eq_true, Bool.and_eq_true, interval, degrade, clear, decide_eq_true_iff, or_assoc]
  exact Iff.rfl

/-- Settles O31: the named fields of Set Reporting, and the clamping and the order of the thresholds of Set Survey. -/
theorem setReportingAndSurvey : Obligations.SetReportingAndSurvey := by
  unfold Obligations.SetReportingAndSurvey
  refine ⟨fun s pres r q ⟨ready, loaded⟩ => ?_, fun s pres i1 i0 d1 d0 c1 c0 ⟨ready, loaded⟩ => ?_⟩
  · have isLoaded := received_loaded loaded
    obtain ⟨ratio, noRatio⟩ := namedField_eq (ratioOfByte_spec r) (present pres 0)
    obtain ⟨position, noPosition⟩ := namedField_eq (positionOfByte_spec q) (present pres 1)
    refine ⟨fun malformed => ?_, fun ⟨some_, named, named'⟩ => ?_⟩
    · refine refuses_of (m := msgSetReporting) ready rfl ?_
      by_cases some_ : pres.toNat % 4 = 0
      · exact msgSetReporting_none isLoaded some_
      · refine msgSetReporting_malformed isLoaded some_ ?_
        by_contra both
        obtain ⟨one, two⟩ := not_or.mp both
        exact malformed ⟨some_, Classical.not_not.mp (mt noRatio one), Classical.not_not.mp (mt noPosition two)⟩
    · obtain ⟨mode, hm, absentMode, presentMode⟩ := ratio named
      obtain ⟨pos, hp, absentPos, presentPos⟩ := position named'
      refine ⟨_, answersWith_of (m := msgSetReporting) ready rfl (msgSetReporting_accepted isLoaded some_ hm hp),
        reportingOnly_set _ _ _, fun has => ?_, fun has => ?_, fun has => ?_, fun has => ?_⟩
      · obtain ⟨m, rfl, code⟩ := presentMode has
        obtain ⟨hr, hu⟩ := setRatio_setPosition_some m pos (received s)
        exact ⟨by rw [hr, code], hu⟩
      · rw [absentMode has]
        simpa using setRatio_setPosition_none pos (received s)
      · obtain ⟨x, rfl, code⟩ := presentPos has
        exact code
      · rw [absentPos has, position_setPosition_none, received_reporting]
  · have isLoaded := received_loaded loaded
    let f : SurveyForm := { intervalMs := word i1 i0, degrade := word d1 d0, clear := word c1 c0 }
    have parsed : parseSetSurvey [pres, i1, i0, d1, d0, c1, c0] = some (pres, f) := rfl
    refine ⟨fun none_ => ?_, fun some_ => ?_⟩
    · exact refuses_of (m := msgSetSurvey) ready rfl (msgSetSurvey_malformed isLoaded parsed none_)
    · have accepted := msgSetSurvey_accepted isLoaded parsed some_
      rw [received_surveySet, SurveyForm.apply, ordered_eq] at accepted
      have both := answers_acceptedCode (surveyMoved_iff f pres s.surveySet)
        (answersWith_of (c := .setSurvey [pres, i1, i0, d1, d0, c1, c0]) ready rfl accepted)
      simp only [← word_toNat]
      exact ⟨both.2, both.1⟩

end Sys2Proof.Proofs.Settings
end

section
/-! START and the end of the image load. -/

namespace Sys2Proof.Proofs.Starting

open Sys2Proof.Machine Sys2Proof.Safety Sys2Proof.Laws Sys2Proof.Proofs.Outcomes Sys2Proof.Proofs.Sweeps
  Sys2Proof.Proofs.Replies Sys2Proof.Proofs.Effects

variable {s t u : State} {i : OutId} {x : Output}

/-! ### The driver check begun on the outputs -/

/-- Nothing but the outputs differs. -/
def OutputsOnly (s t : State) : Prop := t = { s with outputs := t.outputs }

theorem OutputsOnly.trans (h : OutputsOnly s t) (k : OutputsOnly t u) : OutputsOnly s u := by
  unfold OutputsOnly at *
  rw [k, h]

theorem output_sampleDriver_ne {j : OutId} (h : j ≠ i) (s : State) : (sampleDriver i s).output j = s.output j := by
  unfold sampleDriver
  split
  · split
    · rw [output_setOutput, if_neg h]
    · rfl
  · rfl

theorem sweep_sampleDriver : Sweep (fun u i => sampleDriver i u) State.output OutputsOnly where
  apart u i j h := output_sampleDriver_ne h u
  still u i := by
    unfold sampleDriver
    split
    · split <;> rfl
    · rfl
  same _ := rfl
  trans _ _ _ := OutputsOnly.trans

/-- An output whose driver has been taken against its readback at START (R122, log 31). -/
def sampled (s : State) (i : OutId) (x : Output) : Output :=
  if x.state = .faulted then { x with mismatch := none }
  else { x with mismatch := if x.state.energised = s.readbackOn i then none else x.mismatch.or (some s.clock) }

theorem sampleMismatch_sampled (s : State) (i : OutId) (x : Output) :
    { x with mismatch := sampleMismatch x (s.readbackOn i) s.clock } = sampled s i x := by
  rw [sampleMismatch_eq, sampled]
  by_cases faulted : x.state = .faulted <;> simp [faulted]

theorem output_sampleDriver_same (running : s.partState = .running) (i : OutId) :
    (sampleDriver i s).output i = (s.output i).map (sampled s i) := by
  cases found : s.output i with
  | none => rw [sampleDriver_asleep (.inl found), found]; rfl
  | some x => rw [sampleDriver_running found running, output_setOutput_same, sampleMismatch_sampled]; rfl

theorem output_foldl_sampleDriver (running : s.partState = .running) (i : OutId) :
    ((List.finRange 64).foldl (fun u i => sampleDriver i u) s).output i = (s.output i).map (sampled s i) := by
  obtain ⟨u, fixed, before, swept⟩ := sweep_sampleDriver.place_swept (List.nodup_finRange 64) (List.mem_finRange i) s
  have runningU : u.partState = .running := by rw [fixed]; exact running
  have same : sampled u i = sampled s i := by rw [fixed]; rfl
  rw [swept, output_sampleDriver_same runningU, before, same]

/-! ### START -/

theorem performStart_eq (s : State) :
    performStart s = (List.finRange 64).foldl (fun u i => sampleDriver i u) (startedState s) := rfl

theorem startEffect_performStart (s : State) : StartEffect s (performStart s) := by
  have only := sweep_sampleDriver.fixed_foldl (List.finRange 64) (startedState s)
  have objects : (performStart s).objects = (startedState s).objects := by rw [performStart_eq, only]
  refine ⟨?_, fun n => ?_, fun i => ?_⟩
  · rw [objects, performStart_eq]
    exact only
  · rw [State.object, objects]
    exact get_map _ s.objects n
  · rw [performStart_eq, output_foldl_sampleDriver rfl]
    rfl

theorem passesStart_received (s : State) (i : OutId) : PassesStart (received s) i ↔ PassesStart s i := by
  simp [PassesStart]

theorem firstFailure_none (h : ∀ i, PassesStart s i) : firstFailure s = none :=
  List.find?_eq_none.mpr fun i _ => by simp [(outputPasses_iff s i).mpr (h i)]

theorem firstFailure_exists (h : ∃ i, ¬ PassesStart s i) : ∃ i, firstFailure s = some i := by
  refine Option.ne_none_iff_exists'.mp fun none_ => ?_
  obtain ⟨i, fails⟩ := h
  exact fails (Drivers.passesStart_of_firstFailure none_ i)

theorem find?_finRange {k : Nat} {p : Fin k → Bool} {i : Fin k} (h : p i = true) (before : ∀ j < i, p j = false) :
    (List.finRange k).find? p = some i := by
  rw [List.find?_eq_some_iff_getElem]
  refine ⟨h, i.val, by simp, by simp, fun j hj => ?_⟩
  simpa using before ⟨j, hj.trans i.isLt⟩ hj

/-- The first failure is the one output that fails after outputs that all pass. -/
theorem firstFailure_eq (fails : ¬ PassesStart s i) (pass : ∀ j : OutId, j < i → PassesStart s j) :
    firstFailure s = some i :=
  find?_finRange (by simpa using mt (outputPasses_iff s i).mp fails)
    fun j hj => by simp [(outputPasses_iff s j).mpr (pass j hj)]

theorem msgStart_fails (configuring : s.partState = .configuring) (h : firstFailure s = some i) :
    msgStart [] s = (s, { code := .badConfig, data := [[1, u8 i.val]] }) := by
  rw [msgStart, inConfiguring_pass _ configuring]
  simp only [h]
  rfl

theorem msgStart_performs (configuring : s.partState = .configuring) (h : firstFailure s = none) :
    msgStart [] s = done .accepted (performStart s) := by
  rw [msgStart, inConfiguring_pass _ configuring]
  simp only [h]
  rfl

/-- Settles O32: the first failure refuses, and START is performed in the state the message is received in. -/
theorem startPerformed : Obligations.StartPerformed := by
  unfold Obligations.StartPerformed
  intro s ⟨ready, isConfiguring⟩
  have configuring := received_configuring isConfiguring
  refine ⟨fun i fails pass => ?_, fun pass => ?_⟩
  · have first := firstFailure_eq (s := received s) (mt (passesStart_received s i).mp fails) fun j hj =>
      (passesStart_received s j).mpr (pass j hj)
    exact answersWith_of (m := msgStart) ready rfl (msgStart_fails configuring first)
  · have none_ := firstFailure_none (s := received s) fun i => (passesStart_received s i).mpr (pass i)
    obtain ⟨others, objects, outputs⟩ := startEffect_performStart (received s)
    simp only [received_clock, received_timing, received_object, received_output, received_readbackOn] at objects outputs
    refine ⟨_, answersWith_of (m := msgStart) ready rfl (msgStart_performs configuring none_), others.trans ?_, objects,
      outputs⟩
    simp only [received_clock, received_timing, received_surveySet]

/-! ### The image -/

section Image

variable {img : Image}

theorem bandTable_taken {b : Vector BandForm 8} (h : ¬ BandsRefused b) :
    ∃ moved, bandTable b = .ok (b.map bandOf, moved) := by
  have upright : bandsInverted (b.map bandOf) = false := Bool.eq_false_iff.mpr fun inverted =>
    h (bandTable_refused.mpr ⟨.badForm, if_pos inverted⟩)
  have apart : bandsOverlap (b.map bandOf) = false := Bool.eq_false_iff.mpr fun overlap =>
    h (bandTable_refused.mpr ⟨.overlap, by simp [bandTable, upright, overlap]⟩)
  exact ⟨_, by simp [bandTable, upright, apart]; rfl⟩

theorem applyImage_refused (h : BandsRefused img.bands) (s : State) : applyImage img s = none := by
  obtain ⟨c, hc⟩ := bandTable_refused.mp h
  rw [applyImage, hc]

theorem applyImage_taken (h : ¬ BandsRefused img.bands) (s : State) : applyImage img s
    = (defineObjects img.objects (applySettings img (img.bands.map bandOf) s)).bind (defineOutputs img.outputs) := by
  obtain ⟨moved, hm⟩ := bandTable_taken h
  rw [applyImage, hm]

theorem defineObjects_refused {f : ObjectForm} (fs : List ObjectForm) (h : ObjectRefused s f) :
    defineObjects (f :: fs) s = none := by
  obtain ⟨c, hc⟩ := defineObjectForm_refused h
  rw [defineObjects, hc]

theorem defineObjects_taken {f : ObjectForm} (fs : List ObjectForm) {n : ObjId} (h : ¬ ObjectRefused s f)
    (hn : n.val = f.number.toNat) : ∃ t, DefinesObject f n s t ∧ defineObjects (f :: fs) s = defineObjects fs t := by
  obtain ⟨t, moved, ht, defines⟩ := defineObjectForm_taken h hn
  exact ⟨t, defines, by rw [defineObjects, ht]⟩

theorem defineOutputs_refused {f : OutputForm} (fs : List OutputForm) (h : OutputRefused s f) :
    defineOutputs (f :: fs) s = none := by
  obtain ⟨c, hc⟩ := defineOutputForm_refused h
  rw [defineOutputs, hc]

theorem defineOutputs_taken {f : OutputForm} (fs : List OutputForm) (h : ¬ OutputRefused s f)
    (hi : i.val = f.number.toNat) : ∃ t, DefinesOutput f i s t ∧ defineOutputs (f :: fs) s = defineOutputs fs t := by
  obtain ⟨t, moved, ht, defines⟩ := defineOutputForm_taken h hi
  exact ⟨t, defines, by rw [defineOutputs, ht]⟩

end Image

/-! ### The end of the image load -/

section Load

variable {responds : Bool} {img : Image}

theorem loadEnd_unreadable (h : ¬ (responds = true ∧ s.memory.signature = signatureGW)) :
    loadEnd responds s = enterConfiguring .noImage s := by
  refine if_pos ?_
  rw [← Bool.not_eq_true]
  exact not_and_or.mp h

variable (readable : responds = true ∧ s.memory.signature = signatureGW)
include readable

theorem loadEnd_readable : loadEnd responds s = if s.memory.checkAgrees = false then enterConfiguring .imageBad s
    else match loadedImage s with
      | none => enterConfiguring .imageBad s
      | some (img, t) => afterLoad img.autostart t := by
  refine if_neg ?_
  rw [← Bool.not_eq_true]
  exact not_or.mpr ⟨not_not.mpr readable.1, not_not.mpr readable.2⟩

theorem loadEnd_bad (h : s.memory.check ≠ crc s.memory.content) : loadEnd responds s = enterConfiguring .imageBad s := by
  rw [loadEnd_readable readable, if_pos (show s.memory.checkAgrees = false from decide_eq_false h)]

variable (good : s.memory.check = crc s.memory.content)
include good

theorem loadEnd_none (h : loadedImage s = none) : loadEnd responds s = enterConfiguring .imageBad s := by
  rw [loadEnd_readable readable, if_neg (by simp [ConfigMemory.checkAgrees, good]), h]

theorem loadEnd_some (h : loadedImage s = some (img, u)) : loadEnd responds s = afterLoad img.autostart u := by
  rw [loadEnd_readable readable, if_neg (by simp [ConfigMemory.checkAgrees, good]), h]

end Load

theorem afterLoad_waits (s : State) : afterLoad false s = enterConfiguring .loaded s := rfl

theorem afterLoad_fails (h : ∃ i, ¬ PassesStart s i) : afterLoad true s = enterConfiguring .startFailed s := by
  obtain ⟨i, hi⟩ := firstFailure_exists h
  rw [afterLoad, if_pos rfl, hi]

theorem afterLoad_starts (h : ∀ i, PassesStart s i) :
    afterLoad true s = performStart { s with imageStatus := .loaded } := by
  rw [afterLoad, if_pos rfl, firstFailure_none h]

/-- Settles O33: the tests of the load in their order; the definitions of the image one after another. -/
theorem imageLoadEnds : Obligations.ImageLoadEnds := by
  unfold Obligations.ImageLoadEnds
  refine ⟨fun s responds awake loading => ?_, fun img s => ⟨fun refused => applyImage_refused refused s, fun taken =>
      ⟨_, settingsOf_apply img s, applyImage_taken taken s⟩⟩, fun s => ⟨rfl, rfl⟩,
    fun f fs s => ⟨defineObjects_refused fs, fun n => defineObjects_taken fs⟩,
    fun f fs s => ⟨defineOutputs_refused fs, fun i => defineOutputs_taken fs⟩⟩
  have ends : exec (.imageLoadEnd responds) s = .next (schedule (loadEnd responds s)) :=
    Steps.whenDue_due _ awake (decide_eq_true loading)
  have leads : ∀ {t}, loadEnd responds s = t → LeadsTo (.imageLoadEnd responds) s t := fun h => h ▸ ends
  refine ⟨fun unreadable => leads (loadEnd_unreadable unreadable), fun readable bad => leads (loadEnd_bad readable bad),
    fun readable good none_ => ?_, fun img readable good parsed => ⟨fun refused => ?_, fun u applied_ => ?_⟩⟩
  · exact leads (loadEnd_none readable good (by rw [loadedImage, none_]; rfl))
  · exact leads (loadEnd_none readable good (by rw [loadedImage, parsed, Option.bind_some, refused]; rfl))
  · have loaded : loadEnd responds s = afterLoad img.autostart u :=
      loadEnd_some readable good (by rw [loadedImage, parsed, Option.bind_some, applied_]; rfl)
    refine ⟨fun waits => ?_, fun auto fails => ?_, fun auto passes => ?_⟩
    · rw [waits, afterLoad_waits] at loaded
      exact leads loaded
    · rw [auto, afterLoad_fails fails] at loaded
      exact leads loaded
    · rw [auto, afterLoad_starts passes] at loaded
      exact ⟨_, startEffect_performStart _, leads loaded⟩

end Sys2Proof.Proofs.Starting
end

section
/-! Store Image: its message, what the copy holds, and the end of a store. -/

namespace Sys2Proof.Proofs.Storing

open Sys2Proof.Machine Sys2Proof.Safety Sys2Proof.Laws Sys2Proof.Proofs.Replies Sys2Proof.Proofs.FrameCheck
  Sys2Proof.Proofs.Starting

variable {s : State} {body : List Byte}

/-! ### The message -/

section Message

variable (loaded : s.partState ≠ .loading)
include loaded

theorem msgStoreImage_busy (h : s.store ≠ none) : msgStoreImage body s = refuse .busy s := by
  unfold msgStoreImage
  rw [afterLoading_pass _ loaded, if_pos (Option.isSome_iff_ne_none.mpr h)]

theorem msgStoreImage_free (h : s.store = none) (b : Byte) : msgStoreImage [b] s
    = if b = 0 then done .accepted (beginStore (some (imageOf false s)) s)
      else if b = 1 then done .accepted (beginStore (some (imageOf true s)) s)
      else if b = 2 then done .accepted (beginStore none s)
      else refuse .badForm s := by
  rw [msgStoreImage, afterLoading_pass _ loaded, if_neg (by simp [h])]

theorem msgStoreImage_malformed (h : s.store = none) {b : Byte} (above : 2 < b.toNat) :
    msgStoreImage [b] s = refuse .badForm s := by
  have other : ∀ k < 3, b ≠ BitVec.ofNat 8 k := fun k hk he => by
    have := (byte_eq_iff b k (by omega)).mp he
    omega
  rw [msgStoreImage_free loaded h]
  exact (if_neg (other 0 (by decide))).trans ((if_neg (other 1 (by decide))).trans (if_neg (other 2 (by decide))))

theorem msgStoreImage_erase (h : s.store = none) : msgStoreImage [2] s = done .accepted (beginStore none s) := by
  rw [msgStoreImage_free loaded h]
  rfl

theorem msgStoreImage_copy (h : s.store = none) {b : Byte} (below : b.toNat ≤ 1) :
    msgStoreImage [b] s = done .accepted (beginStore (some (imageOf (decide (b = 1)) s)) s) := by
  have h0 := byte_eq_iff b 0 (by decide)
  have h1 := byte_eq_iff b 1 (by decide)
  rw [msgStoreImage_free loaded h]
  by_cases zero : b = 0
  · subst zero
    rfl
  · have one : b = 1 := h1.mpr (by have := mt h0.mpr zero; omega)
    subst one
    rfl

end Message

theorem beginStore_received (copy : Option Image) (s : State) :
    beginStore copy (received s) = { received s with store := some { start := s.clock, copy := copy } } := by
  simp only [beginStore, received_clock]

theorem imageOf_received (autostart : Bool) (s : State) : imageOf autostart (received s) = imageOf autostart s := by
  simp [imageOf]

/-! ### The copy -/

theorem mem_objects_imageOf (autostart : Bool) (f : ObjectForm) :
    f ∈ (imageOf autostart s).objects ↔ ∃ n o, s.object n = some o ∧ f = o.cfg.form n := by
  simp [imageOf, eq_comm]

theorem mem_outputs_imageOf (autostart : Bool) (f : OutputForm) :
    f ∈ (imageOf autostart s).outputs ↔ ∃ i x, s.output i = some x ∧ f = x.cfg.form i := by
  simp [imageOf, eq_comm]

theorem number_form (n : ObjId) (d : ObjDef) : (d.form n).number.toNat = n.val := u8_toNat (by omega)

theorem number_outputForm (i : OutId) (d : OutDef) : (d.form i).number.toNat = i.val := u8_toNat (by omega)

theorem sorted_objects_imageOf (autostart : Bool) (s : State) :
    (imageOf autostart s).objects.Pairwise fun f g => f.number.toNat < g.number.toNat := by
  refine List.pairwise_filterMap.mpr ((List.pairwise_lt_finRange 128).imp ?_)
  intro n m before f hf g hg
  obtain ⟨o, -, rfl⟩ := Option.map_eq_some_iff.mp hf
  obtain ⟨p, -, rfl⟩ := Option.map_eq_some_iff.mp hg
  rw [number_form, number_form]
  exact before

theorem sorted_outputs_imageOf (autostart : Bool) (s : State) :
    (imageOf autostart s).outputs.Pairwise fun f g => f.number.toNat < g.number.toNat := by
  refine List.pairwise_filterMap.mpr ((List.pairwise_lt_finRange 64).imp ?_)
  intro i j before f hf g hg
  obtain ⟨x, -, rfl⟩ := Option.map_eq_some_iff.mp hf
  obtain ⟨y, -, rfl⟩ := Option.map_eq_some_iff.mp hg
  rw [number_outputForm, number_outputForm]
  exact before

/-! ### The end -/

theorem exec_storeEnd {job : StoreJob} (good : Bool) (awake : s.inReset = false) (store : s.store = some job) :
    exec (.storeEnd good) s = .next (schedule (storeEnded good job s)) := by
  change execStoreEnd good s = _
  rw [execStoreEnd, store]
  exact Steps.whenDue_due _ awake rfl

theorem memoryStored_copy {job : StoreJob} {img : Image} (h : job.copy = some img) (m : ConfigMemory) :
    memoryStored job m = ConfigMemory.whole img.bytes := by rw [memoryStored, h]

theorem memoryStored_erase {job : StoreJob} (h : job.copy = none) (m : ConfigMemory) :
    memoryStored job m = { m with signature := otherThan signatureGW Config.erasedWord } := by rw [memoryStored, h]

/-- Settles O34: the message's cases, the fields of the copy, and the two ends. -/
theorem storeImage : Obligations.StoreImage := by
  unfold Obligations.StoreImage
  refine ⟨fun s body ⟨ready, loaded⟩ busy => ?_, fun s b ⟨ready, loaded⟩ free => ?_, fun s autostart => ?_,
    fun s job awake store => ?_⟩
  · exact refuses_of (m := msgStoreImage) ready rfl (msgStoreImage_busy (received_loaded loaded) (by simpa using busy))
  · have isLoaded := received_loaded loaded
    have isFree : (received s).store = none := by simpa using free
    refine ⟨fun above => ?_, fun two => ?_, fun below => ?_⟩
    · exact refuses_of (m := msgStoreImage) ready rfl (msgStoreImage_malformed isLoaded isFree above)
    · subst two
      refine answersWith_of (m := msgStoreImage) ready rfl ?_
      rw [msgStoreImage_erase isLoaded isFree, beginStore_received]
      rfl
    · refine answersWith_of (m := msgStoreImage) ready rfl ?_
      rw [msgStoreImage_copy isLoaded isFree below, beginStore_received, imageOf_received]
      rfl
  · exact ⟨rfl, fun g => get_map _ _ g, fun i => get_map _ _ i, rfl, rfl, rfl, mem_objects_imageOf autostart,
      sorted_objects_imageOf autostart s, mem_outputs_imageOf autostart, sorted_outputs_imageOf autostart s⟩
  · have ended := exec_storeEnd true awake store
    refine ⟨fun img copy => ?_, fun erase => ⟨otherThan signatureGW Config.erasedWord, Steps.otherThan_ne _ _, ?_⟩,
      memoryPartial s.free, Steps.otherThan_ne _ _, exec_storeEnd false awake store⟩
    · rw [storeEnded, if_pos rfl, memoryStored_copy copy] at ended
      exact ended
    · rw [storeEnded, if_pos rfl, memoryStored_erase erase] at ended
      exact ended

end Sys2Proof.Proofs.Storing
end

section
/-! The stored forms of the definitions and the settings: what the load makes of them again. -/

namespace Sys2Proof.Proofs.LoadBack

open Sys2Proof.Machine Sys2Proof.Safety Sys2Proof.Laws Sys2Proof.Proofs.FrameCheck Sys2Proof.Proofs.Storing

variable {n : ObjId} {d : ObjDef}

/-! ### Numbers -/

theorem w16_toNat {k : Nat} (h : k ≤ 65535) : (w16 k).toNat = k := by
  rw [w16, BitVec.toNat_ofNat]
  omega

theorem clampField_within {lo hi x : Nat} (h : lo ≤ x) (k : x ≤ hi) :
    clampField lo hi x = { value := x, moved := false } := by
  have same : clamp lo hi x = x := by
    unfold clamp
    omega
  simp [clampField, same]

theorem pointNumber_u8 (p : PointId) : pointNumber (u8 p.val) = p := Fin.ext (u8_toNat (by omega))

/-! ### Objects -/

theorem flagOfByte_urgent (n : ObjId) (d : ObjDef) : flagOfByte (d.form n).urgent = some d.urgent :=
  flagOfByte_flagByte d.urgent

theorem objectNumber_form (n : ObjId) (d : ObjDef) : objectNumber (d.form n).number = some n :=
  objectNumber_of (number_form n d).symm

theorem pointByte_ne {b : PointId} (h : d.pointA ≠ b) : u8 d.pointA.val ≠ u8 b.val := fun he =>
  h (by rw [← pointNumber_u8 d.pointA, he, pointNumber_u8])

theorem kindOf_form (n : ObjId) (apart : ∀ b, d.kind = .pair b → d.pointA ≠ b) :
    (d.form n).kindOf = some d.kind := by
  unfold ObjectForm.kindOf ObjDef.form
  cases kind : d.kind with
  | single sense => cases sense <;> rfl
  | pair b =>
    have ne := pointByte_ne (apart b kind)
    simp [Kind.byte, Kind.pointByte, ne, pointNumber_u8]
  | coded => rfl

theorem clampTag_form {tag : Nat} (h : tag ≤ 4095) : clampTag (w16 tag) = { value := tag, moved := false } := by
  rw [clampTag, w16_toNat (by omega), clampField_within (Nat.zero_le _) h]

theorem clampChatter_form {limit : Nat} (h : limit = 0 ∨ (2 ≤ limit ∧ limit ≤ 60)) :
    clampChatter (u8 limit).toNat = { value := limit, moved := false } := by
  rw [u8_toNat (by omega), clampChatter]
  split
  · simp [*]
  · exact clampField_within (by omega) (by omega)

/-- The presence marker of a stored definition marks the fields its kind uses (section 2.1.1). -/
theorem present_presence (k : Kind) : present k.presence 0 = decide (k.byte = 1) ∧ present k.presence 1 = true
    ∧ present k.presence 2 = decide (k.byte = 2) ∧ present k.presence 3 = decide (k.byte ≠ 2) := by
  cases k <;> simp [present, Kind.presence, Kind.byte]

theorem ifUsed_optional (uses : Prop) [Decidable uses] (c other : Clamped) :
    ifUsed (decide uses) (if decide uses = true then c else other) = if uses then c else { value := 0, moved := false } := by
  by_cases h : uses <;> simp [ifUsed, h]

theorem ifUsed_service (unused : Prop) [Decidable unused] (v : Nat) :
    (ifUsed (decide ¬ unused) ⟨if (decide ¬ unused) = true then v else 0, false⟩).value = if unused then 0 else v := by
  by_cases h : unused <;> simp [ifUsed, h]

section Definition

variable (tag : d.tag ≤ 4095) (limit : d.chatterLimit = 0 ∨ (2 ≤ d.chatterLimit ∧ d.chatterLimit ≤ 60))
include tag limit

/-- The stored form of a definition gives it again, its kind using some of its fields and holding 0 in the others. -/
theorem definition_form (n : ObjId)
    (transit : (if d.kind.byte = 1 then clampTransit (w16 d.transitMs) else { value := 0, moved := false })
      = { value := d.transitMs, moved := false })
    (steady : (if d.kind.byte = 2 then clampSteady (w16 d.steadyMs) else { value := 0, moved := false })
      = { value := d.steadyMs, moved := false })
    (service : (if d.kind.byte = 2 then 0 else (w16 d.service).toNat) = d.service) :
    (d.form n).definition d.kind d.urgent = { cfg := d, moved := false } := by
  have tag_ := clampTag_form tag
  have limit_ := clampChatter_form limit
  obtain ⟨p0, p1, p2, p3⟩ := present_presence d.kind
  unfold ObjectForm.definition ObjDef.form
  simp only [tag_, limit_, p0, p1, p2, p3, ifUsed_optional, ifUsed_service, transit, steady, service, if_true,
    pointNumber_u8, Bool.or_false]

theorem definition_single (n : ObjId) {sense : Sense} (kind : d.kind = .single sense) (transit : d.transitMs = 0)
    (steady : d.steadyMs = 0) (service : d.service ≤ 65535) :
    (d.form n).definition d.kind d.urgent = { cfg := d, moved := false } := by
  refine definition_form tag limit n ?_ ?_ ?_
  · rw [kind, transit]; rfl
  · rw [kind, steady]; rfl
  · rw [kind]; exact w16_toNat service

theorem definition_pair (n : ObjId) {b : PointId} (kind : d.kind = .pair b) (low : 20 ≤ d.transitMs)
    (high : d.transitMs ≤ 5000) (steady : d.steadyMs = 0) (service : d.service ≤ 65535) :
    (d.form n).definition d.kind d.urgent = { cfg := d, moved := false } := by
  have transit : clampTransit (w16 d.transitMs) = { value := d.transitMs, moved := false } := by
    rw [clampTransit, w16_toNat (by omega), clampField_within low high]
  refine definition_form tag limit n ?_ ?_ ?_
  · rw [kind, transit]; rfl
  · rw [kind, steady]; rfl
  · rw [kind]; exact w16_toNat service

theorem definition_coded (n : ObjId) (kind : d.kind = .coded) (transit : d.transitMs = 0) (low : 200 ≤ d.steadyMs)
    (high : d.steadyMs ≤ 10000) (service : d.service = 0) :
    (d.form n).definition d.kind d.urgent = { cfg := d, moved := false } := by
  have steady : clampSteady (w16 d.steadyMs) = { value := d.steadyMs, moved := false } := by
    rw [clampSteady, w16_toNat (by omega), clampField_within low high]
  refine definition_form tag limit n ?_ ?_ ?_
  · rw [kind, transit]; rfl
  · rw [kind, steady]; rfl
  · rw [kind, service]; rfl

end Definition

theorem objectFits_form (n : ObjId) (apart : ∀ b, d.kind = .pair b → d.pointA ≠ b) : ObjectFits (d.form n) := by
  have named := kindOf_form n apart
  by_contra h
  rcases kindOf_none h with none_ | none_
  · rw [named] at none_
    cases none_
  · rw [flagOfByte_urgent] at none_
    cases none_

theorem objectGiven_form (n : ObjId) (apart : ∀ b, d.kind = .pair b → d.pointA ≠ b)
    (back : (d.form n).definition d.kind d.urgent = { cfg := d, moved := false }) : objectGiven (d.form n) = d := by
  have fits := objectFits_form n apart
  have kind : d.kind = (objectGiven (d.form n)).kind := Option.some.inj ((kindOf_form n apart).symm.trans (kindOf_some fits))
  have urgent : d.urgent = decide ((d.form n).urgent = 1) :=
    Option.some.inj ((flagOfByte_urgent n d).symm.trans (flagOfByte_some fits.2.2.2))
  rw [← definition_eq fits, ← kind, ← urgent, back]

/-! ### Settings -/

section Settings

variable {s t v : State} {autostart : Bool}

theorem clamp_within {lo hi x : Nat} (h : lo ≤ x) (k : x ≤ hi) : clamp lo hi x = x :=
  congrArg Clamped.value (clampField_within h k)

variable (fit : SettingsInRange s) (loaded : SettingsOf (imageOf autostart s) v t)
include fit loaded

theorem group_loaded (g : GroupId) : t.group g = { s.group g with refFault := false } := by
  obtain ⟨⟨f1, f2⟩, r1, r2⟩ := fit.groups g
  have copied : (imageOf autostart s).groups.get g = { filterMs := u8 (s.group g).filterMs, survey := (s.group g).survey
                                                       refRes := w16 (s.group g).refRes } := get_map _ _ g
  rw [loaded.groups g, copied, u8_toNat (by omega), w16_toNat (by omega), clamp_within f1 f2, clamp_within r1 r2]

theorem band_loaded (i : Fin 8) : t.bands.get i = s.bands.get i := by
  have copied : (imageOf autostart s).bands.get i = (s.bands.get i).map fun b => (w16 b.min, w16 b.max) := get_map _ _ i
  rw [loaded.bands i, copied]
  cases band : s.bands.get i with
  | none => rfl
  | some b =>
    obtain ⟨⟨l1, l2⟩, h1, h2⟩ := fit.bands i b band
    simp only [Option.map_some, w16_toNat (show b.min ≤ 65535 by omega), w16_toNat (show b.max ≤ 65535 by omega),
      clamp_within l1 l2, clamp_within h1 h2]

theorem timing_loaded : t.timing = s.timing := by
  obtain ⟨settle1, settle2⟩ := fit.settle
  obtain ⟨conflict1, conflict2⟩ := fit.conflict
  obtain ⟨window1, window2⟩ := fit.window
  obtain ⟨silence1, silence2⟩ := fit.silence
  rw [loaded.timing]
  simp only [imageOf]
  rw [w16_toNat (by omega), w16_toNat (by omega), w16_toNat (by omega), u8_toNat (by omega), clamp_within settle1 settle2,
    clamp_within conflict1 conflict2, clamp_within window1 window2, clamp_within silence1 silence2]

theorem survey_loaded : t.surveySet = s.surveySet := by
  obtain ⟨interval1, interval2⟩ := fit.interval_
  obtain ⟨degrade1, degrade2⟩ := fit.degrade
  have clear := fit.clear
  have interval : t.surveySet.intervalMs = s.surveySet.intervalMs := by
    rw [loaded.survey, imageOf, w16_toNat (by omega), clamp_within interval1 interval2]
  have degrade : t.surveySet.degrade = s.surveySet.degrade := by
    rw [loaded.degrade, imageOf, w16_toNat (by omega), clamp_within degrade1 degrade2]
  have clear' : t.surveySet.clear = s.surveySet.clear := by
    rw [loaded.clear, degrade, imageOf, w16_toNat (by omega), clamp_within (Nat.zero_le _) (by omega),
      if_neg (by omega)]
  cases ht : t.surveySet
  cases hs : s.surveySet
  simp_all

end Settings

/-! ### Outputs -/

section Outputs

variable {i : OutId} {x : OutDef}

theorem present_bits (a b : Bool) : present (bitIf 0 a ||| bitIf 1 b ||| 0x0C) 0 = a
    ∧ present (bitIf 0 a ||| bitIf 1 b ||| 0x0C) 1 = b ∧ present (bitIf 0 a ||| bitIf 1 b ||| 0x0C) 2 = true
    ∧ present (bitIf 0 a ||| bitIf 1 b ||| 0x0C) 3 = true := by
  revert a b
  decide

theorem modeOfByte_byte (m : Mode) : modeOfByte m.byte = some m := by cases m <;> rfl

theorem expectedOfByte_code : ∀ k : Fin 8, expectedOfByte (Indication.code k).byte = some (.code k) := by decide

/-- The expected indication of an output with a proving object is one of R110's values. -/
def Expects (v : Option Indication) : Prop := v = some .picked ∨ v = some .dropped ∨ v = some .steadyMade
  ∨ v = some .steadyOpen ∨ ∃ k, v = some (.code k)

theorem expectedOfByte_form {v : Option Indication} (h : Expects v) : expectedOfByte (indicationByte v) = v := by
  rcases h with rfl | rfl | rfl | rfl | ⟨k, rfl⟩
  · rfl
  · rfl
  · rfl
  · rfl
  · exact expectedOfByte_code k

theorem namesExpected_form {v : Option Indication} (h : Expects v) : NamesExpected (indicationByte v) := by
  by_contra other
  have none_ := (expectedOfByte_spec (indicationByte v)).2 other
  rw [expectedOfByte_form h] at none_
  subst none_
  rcases h with h | h | h | h | ⟨k, h⟩ <;> cases h

theorem outputNumber_form (i : OutId) (x : OutDef) : outputNumber (x.form i).number = some i :=
  outputNumber_of (number_outputForm i x).symm

theorem partner_ne (h : x.partner ≠ some i) (present_ : x.partner.isSome = true) :
    (x.form i).partner ≠ (x.form i).number := by
  obtain ⟨j, hj⟩ := Option.isSome_iff_exists.mp present_
  intro he
  have same : u8 j.val = u8 i.val := by simpa [OutDef.form, numberByte, hj] using he
  refine h (hj.trans (congrArg some (Fin.ext ?_)))
  rw [← u8_toNat (show j.val ≤ 255 by omega), same, u8_toNat (by omega)]

section Form

variable (apart : x.partner ≠ some i) (expects : x.proving ≠ none → Expects x.expected)
include apart expects

theorem badForm_form : (x.form i).badForm = false := by
  obtain ⟨p0, p1, -, -⟩ := present_bits x.partner.isSome x.proving.isSome
  refine Bool.eq_false_iff.mpr (mt (badForm_iff (x.form i)).mp ?_)
  rintro (mode | ⟨has, same⟩ | ⟨has, other⟩)
  · have named : (x.form i).mode.toNat ≤ 1 := by
      change x.mode.byte.toNat ≤ 1
      cases x.mode <;> decide
    omega
  · exact partner_ne apart (p0.symm.trans has) same
  · exact other (namesExpected_form (expects (Option.isSome_iff_ne_none.mp (p1.symm.trans has))))

omit apart expects in
theorem outOfRange_form (i : OutId) (x : OutDef) : (x.form i).outOfRange = false := by
  obtain ⟨p0, p1, -, -⟩ := present_bits x.partner.isSome x.proving.isSome
  refine Bool.eq_false_iff.mpr (mt (outOfRange_iff (x.form i)).mp ?_)
  rintro (number | ⟨has, above⟩ | ⟨has, above⟩)
  · rw [number_outputForm] at number
    omega
  · obtain ⟨j, hj⟩ := Option.isSome_iff_exists.mp (p0.symm.trans has)
    have value : (x.form i).partner.toNat = j.val := by
      simp only [OutDef.form, hj, numberByte]
      exact u8_toNat (by omega)
    omega
  · obtain ⟨m, hm⟩ := Option.isSome_iff_exists.mp (p1.symm.trans has)
    have value : (x.form i).proving.toNat = m.val := by
      simp only [OutDef.form, hm, numberByte]
      exact u8_toNat (by omega)
    omega

omit apart in
theorem definition_outputForm (tag : x.tag ≤ 4095) (pulse : 20 ≤ x.pulseMs ∧ x.pulseMs ≤ 10000)
    (proving : 100 ≤ x.provingMs ∧ x.provingMs ≤ 60000) (none_ : x.proving = none → x.expected = none) :
    (x.form i).definition = { cfg := x, moved := false } := by
  obtain ⟨p0, p1, p2, p3⟩ := present_bits x.partner.isSome x.proving.isSome
  have tag_ := clampTag_form tag
  have pulse_ : clampPulse (w16 x.pulseMs) = { value := x.pulseMs, moved := false } := by
    rw [clampPulse, w16_toNat (by omega), clampField_within pulse.1 pulse.2]
  have proving_ : clampProving (w16 x.provingMs) = { value := x.provingMs, moved := false } := by
    rw [clampProving, w16_toNat (by omega), clampField_within proving.1 proving.2]
  have partner : (if x.partner.isSome = true then outputNumber (numberByte x.partner) else none) = x.partner := by
    cases h : x.partner with
    | none => rfl
    | some j => exact outputNumber_of (u8_toNat (by omega)).symm
  have watched : (if x.proving.isSome = true then objectNumber (numberByte x.proving) else none) = x.proving := by
    cases h : x.proving with
    | none => rfl
    | some m => exact objectNumber_of (u8_toNat (by omega)).symm
  have expected : (if x.proving.isSome = true then expectedOfByte (indicationByte x.expected) else none) = x.expected := by
    cases h : x.proving with
    | none => exact (none_ h).symm
    | some m => exact expectedOfByte_form (expects (by simp [h]))
  unfold OutputForm.definition OutDef.form
  simp only [p0, p1, p2, p3, tag_, pulse_, proving_, partner, watched, expected, modeOfByte_byte, Option.getD_some,
    if_true, Bool.or_false]

end Form

end Outputs

/-- Settles O35: each stored form gives its definition again, and the settings load as they were copied. -/
theorem storedDefinitionsLoadBack : Obligations.StoredDefinitionsLoadBack := by
  unfold Obligations.StoredDefinitionsLoadBack
  refine ⟨fun n d tag limit apart range_ => ?_, parseImage_imageOf, fun s v t autostart fit loaded =>
    ⟨group_loaded fit loaded, band_loaded fit loaded, timing_loaded fit loaded, loaded.reporting, survey_loaded fit loaded⟩,
    fun i d tag pulse pulse' proving proving' apart none_ expects => ?_⟩
  · have back : (d.form n).definition d.kind d.urgent = { cfg := d, moved := false } := by
      cases kind : d.kind with
      | single sense =>
        rw [kind] at range_
        obtain ⟨transit, steady, service⟩ := range_
        exact kind ▸ definition_single tag limit n kind transit steady service
      | pair b =>
        rw [kind] at range_
        obtain ⟨low, high, steady, service⟩ := range_
        exact kind ▸ definition_pair tag limit n kind low high steady service
      | coded =>
        rw [kind] at range_
        obtain ⟨transit, low, high, service⟩ := range_
        exact kind ▸ definition_coded tag limit n kind transit low high service
    exact ⟨kindOf_form n apart, flagOfByte_urgent n d, objectNumber_form n d, back, objectFits_form n apart,
      number_form n d, objectGiven_form n apart back⟩
  · have back := definition_outputForm (i := i) expects tag ⟨pulse, pulse'⟩ ⟨proving, proving'⟩ none_
    have gives := outputGives_definition (badForm_form apart expects) (outOfRange_form i d)
    rw [back] at gives
    exact ⟨badForm_form apart expects, outOfRange_form i d, outputNumber_form i d, back, number_outputForm i d, gives⟩

end Sys2Proof.Proofs.LoadBack
end

section
/-! The contact survey: the attempt, the two gates, and the judgment of a resistance. -/

namespace Sys2Proof.Proofs.Surveying

open Sys2Proof.Machine Sys2Proof.Safety Sys2Proof.Laws Sys2Proof.Proofs.Outcomes Sys2Proof.Proofs.Starting

variable {s t : State} {m : Measurement} {count refCount : Nat}

/-! ### The attempt -/

theorem choosePoint_some {k : Fin 256} (h : MayBeMeasured s (s.surveyCursor + k))
    (before : ∀ j : Fin 256, j < k → ¬ MayBeMeasured s (s.surveyCursor + j)) :
    choosePoint s = some (s.surveyCursor + k) := by
  have first : (List.finRange 256).find? (eligible s ∘ fun k => s.surveyCursor + k) = some k :=
    find?_finRange ((eligible_iff s _).mpr h) fun j hj =>
      Bool.eq_false_iff.mpr (mt (eligible_iff s _).mp (before j hj))
  rw [choosePoint, surveyOrder, List.find?_map, first]
  rfl

theorem choosePoint_none (h : ∀ p, ¬ MayBeMeasured s p) : choosePoint s = none :=
  List.find?_eq_none.mpr fun p _ => mt (eligible_iff s p).mp (h p)

/-- Settles O45: the attempt chooses the first point in the survey's order. -/
theorem surveyAttempt : Obligations.SurveyAttempt := by
  unfold Obligations.SurveyAttempt
  intro s a awake running next due
  have step : exec .surveyAttempt s = .next (schedule (attempt s)) :=
    Steps.whenDue_due _ awake ((attemptDue_iff s).mpr ⟨running, a, next, due⟩)
  have at_ : s.nextAttempt.getD s.clock = a := by rw [next]; rfl
  refine ⟨fun k chosen before => ?_, fun nothing => ?_⟩
  · rw [attempt, choosePoint_some chosen before, at_] at step
    exact step
  · rw [attempt, choosePoint_none nothing, at_] at step
    exact step

/-! ### The reference gate -/

theorem exec_referenceGateEnd (awake : s.inReset = false) (measuring : s.measure = some m) (phase : m.phase = .reference)
    (ended : 100 ≤ interval m.start s.clock) (count : Nat) :
    exec (.referenceGateEnd count) s = .next (schedule (judgeReference m (sat16 count) s)) := by
  have due : referenceDue s = some m := by
    simp [referenceDue, measuring, Option.filter, phase, gateReached, Config.gateUnits, ended]
  change execReferenceGateEnd count s = _
  rw [execReferenceGateEnd, due]
  exact Steps.whenDue_due _ awake rfl

theorem sat16_lt (h : count < 500) : sat16 count < Config.referenceMinimum := by
  unfold sat16 Config.referenceMinimum
  omega

theorem sat16_ge (h : 500 ≤ count) : ¬ sat16 count < Config.referenceMinimum := by
  unfold sat16 Config.referenceMinimum
  omega

/-! ### The point gate -/

theorem exec_pointGateEnd (awake : s.inReset = false) (measuring : s.measure = some m) (phase : m.phase = .point refCount)
    (ended : 200 ≤ interval m.start s.clock) (count : Nat) :
    exec (.pointGateEnd count) s = .next (schedule (completeMeasurement m refCount count s)) := by
  have due : pointGateDue s = some (m, refCount) := by
    simp [pointGateDue, measuring, phase, gateReached, Config.gateUnits, ended]
  change execPointGateEnd count s = _
  rw [execPointGateEnd, due]
  exact Steps.whenDue_due _ awake rfl

theorem measured_records (set : SurveySettings) (r : Nat) (h : Health) :
    (h.measured set r).last = r ∧ (h.measured set r).highest = max h.highest r
      ∧ (h.measured set r).count = min (h.count + 1) 65535 := by
  unfold Health.measured Health.judge
  split
  · exact ⟨rfl, rfl, rfl⟩
  · split <;> exact ⟨rfl, rfl, rfl⟩

theorem anyDegraded_iff (s : State) (d : ObjDef) :
    anyDegraded s d = true ↔ ∃ p ∈ d.points, (s.healthOf p).degraded = true := by
  simp [anyDegraded]

section Degrade

variable {o : Obj} {n : ObjId}

theorem degradeStep_same (h : anyDegraded s o.cfg = o.degraded) : degradeStep s o = o.begin := by
  unfold degradeStep
  rw [h]
  exact if_pos rfl

theorem degradeStep_on (h : anyDegraded s o.cfg = true) (k : o.degraded = false) : degradeStep s o = {
    obj := { o with degraded := true, events := o.events ||| Event.degradedOn.bit }
    reason := some .routine
    change := none } := by
  unfold degradeStep
  rw [h, k]
  rfl

theorem degradeStep_off (h : anyDegraded s o.cfg = false) (k : o.degraded = true) : degradeStep s o = {
    obj := { o with degraded := false, events := o.events ||| Event.degradedOff.bit }
    reason := some .routine
    change := none } := by
  unfold degradeStep
  rw [h, k]
  rfl

theorem degradeOwner_none {p : PointId} (h : (s.point p).owner = none) : degradeOwner p s = s := by
  rw [degradeOwner, h]

theorem degradeOwner_some {p : PointId} (h : (s.point p).owner = some n) (found : s.object n = some o) :
    degradeOwner p s = applyStep n (degradeStep s o) s := by
  rw [degradeOwner, h]
  simp only [found]

theorem applyStep_begin (n : ObjId) (o : Obj) (s : State) : applyStep n o.begin s = s.setObject n o := by
  rw [applyStep_silent rfl, applied_unchanged rfl]
  rfl

end Degrade

/-- Settles O46: each gate's end by its count and what stood before. -/
theorem surveyGates : Obligations.SurveyGates := by
  unfold Obligations.SurveyGates
  refine ⟨fun s m count awake measuring phase ended => ?_, fun s m refCount count awake measuring phase ended => ?_⟩
  · have step := exec_referenceGateEnd awake measuring phase ended count
    refine ⟨fun low clear => ?_, fun low faulted => ?_, fun enough faulted => ?_, fun enough clear => ?_⟩
    · rw [judgeReference, if_pos (sat16_lt low), clear] at step
      exact step
    · rw [judgeReference, if_pos (sat16_lt low), faulted] at step
      exact step
    · rw [judgeReference, if_neg (sat16_ge enough), faulted] at step
      exact step
    · rw [judgeReference, if_neg (sat16_ge enough), clear] at step
      exact step
  · have step := exec_pointGateEnd awake measuring phase ended count
    intro p h r h' t
    have completed : completeMeasurement m refCount count s
        = if h'.degraded = h.degraded then t else degradeOwner p t := rfl
    rw [completed] at step
    refine ⟨measured_records _ _ _, fun same => ?_, fun changed unowned => ?_, fun n o changed owned found => ?_⟩
    · rw [if_pos same] at step
      exact step
    · rw [if_neg changed, degradeOwner_none (s := t) unowned] at step
      exact step
    · rw [if_neg changed, degradeOwner_some (s := t) owned found] at step
      have any := anyDegraded_iff t o.cfg
      refine ⟨fun now was => ?_, fun now was => ?_, fun now was => ?_, fun now was => ?_⟩
      · rw [degradeStep_same ((any.mpr now).trans was.symm), applyStep_begin] at step
        exact step
      · rw [degradeStep_same ((Bool.eq_false_iff.mpr (mt any.mp now)).trans was.symm), applyStep_begin] at step
        exact step
      · rw [degradeStep_on (any.mpr now) was, applyStep_reason rfl, applied_unchanged rfl] at step
        exact step
      · rw [degradeStep_off (Bool.eq_false_iff.mpr (mt any.mp now)) was, applyStep_reason rfl, applied_unchanged rfl]
          at step
        exact step

/-! ### The resistance -/

section Judge

variable {set : SurveySettings} {r : Nat} (h : Health)

theorem measured_over (exceeds : set.degrade < r) : (h.measured set r).overCount = min (h.overCount + 1) 2
    ∧ ((h.measured set r).degraded = true ↔ h.degraded = true ∨ (h.measured set r).overCount = 2) := by
  rw [Health.measured, Health.judge, if_pos exceeds]
  refine ⟨rfl, ?_⟩
  rw [Bool.or_eq_true, decide_eq_true_iff]

theorem measured_between (above : set.clear < r) (within : r ≤ set.degrade) :
    (h.measured set r).overCount = 0 ∧ (h.measured set r).degraded = h.degraded := by
  rw [Health.measured, Health.judge, if_neg (Nat.not_lt.mpr within), if_pos above]
  exact ⟨rfl, rfl⟩

theorem measured_clear (ordered : set.clear < set.degrade) (below : r ≤ set.clear) :
    (h.measured set r).overCount = 0 ∧ (h.measured set r).degraded = false := by
  rw [Health.measured, Health.judge, if_neg (by omega), if_neg (Nat.not_lt.mpr below)]
  exact ⟨rfl, rfl⟩

end Judge

/-- Settles O47: the quotient, and the judgment by the two thresholds. -/
theorem resistanceJudged : Obligations.ResistanceJudged := by
  unfold Obligations.ResistanceJudged
  refine ⟨fun refRes refCount => rfl, fun refRes refCount count positive => ?_, fun set r h _ ordered =>
    ⟨measured_over h, measured_between h, measured_clear h ordered⟩⟩
  rw [loopResistance, if_neg (Nat.ne_of_gt positive)]
  rfl

end Sys2Proof.Proofs.Surveying
end

section
/-! The reads: the layouts of Read Object and Read Output, and the tables of Read Points and Read Health. -/

namespace Sys2Proof.Proofs.Reads

open Sys2Proof.Machine Sys2Proof.Safety Sys2Proof.Laws Sys2Proof.Proofs.Outcomes Sys2Proof.Proofs.Replies
  Sys2Proof.Proofs.Sending Sys2Proof.Proofs.Adjusting Sys2Proof.Proofs.GoodFrames

variable {s : State} {n : ObjId} {o : Obj} {i : OutId} {x : Output}

/-! ### The bytes of fields -/

/-- A flag in the words of the statements. -/
abbrev bit (b : Bool) : Byte := if b = true then 1 else 0

/-- An optional indication in the words of the statements. -/
abbrev shownOrFF (v : Option Indication) : Byte := (v.map Indication.byte).getD 0xFF

/-- A sense in the words of the statements. -/
def senseCode : Kind → Byte
  | .single .front => 0
  | .single .back => 1
  | .pair _ | .coded => 0xFF

/-- The pulse end time in the words of the statements: 0 outside PULSING. -/
def endBytes : OutState → List Byte
  | .pulsing e => be32 e
  | .off | .latched | .faulted => [0, 0, 0, 0]

theorem senseByte_eq (k : Kind) : k.senseByte = senseCode k := by
  cases k with
  | single sense => cases sense <;> rfl
  | pair b => rfl
  | coded => rfl

theorem stagedMarker_eq (a b c : Bool) : stagedMarker a b c = bit a + 2 * bit b + 4 * bit c := by
  revert a b c
  decide

theorem stagedMarker_two (a b : Bool) : stagedMarker a b false = bit a + 2 * bit b := by
  revert a b
  decide

theorem admission_byte (a : Admission) : a.byte = bit (decide (a = .suspended)) := by cases a <;> rfl

theorem mode_byte (m : Mode) : m.byte = bit (decide (m = .latchable)) := by cases m <;> rfl

theorem indicationByte_eq (v : Option Indication) : indicationByte v = shownOrFF v := by cases v <;> rfl

theorem timeBytes_endTime (st : OutState) : timeBytes st.endTime = endBytes st := by
  cases st
  case pulsing => rfl
  all_goals decide

/-- No receipt moves an entry of a source other than the part. -/
theorem holdsKept_received {src : Source} (h : src ≠ .part) (s : State) : HoldsKept src s (received s) := by
  by_cases running : s.partState = .running
  · cases silent : s.deskSilent with
    | false =>
      rw [received_of_not_silent running silent]
      exact ⟨rfl, rfl⟩
    | true =>
      rw [received_of_silent running silent]
      exact request_other h .routine (restarted s)
  · rw [received_of_not_running running]
    exact ⟨rfl, rfl⟩

theorem queueByte_received {src : Source} (h : src ≠ .part) (s : State) :
    queueByte (received s) src = queueByte s src := by
  obtain ⟨urgent, routine⟩ := holdsKept_received h s
  rw [queueByte, queueByte, urgent, routine]

/-! ### The layouts -/

theorem objectData_layout (s : State) (n : ObjId) (o : Obj) : objectData s n o
    = [u8 n.val, o.cfg.kind.byte, u8 o.cfg.pointA.val, o.cfg.kind.pointByte, senseCode o.cfg.kind]
      ++ be16 o.cfg.tag ++ [bit o.cfg.urgent] ++ be16 o.cfg.transitMs ++ [u8 o.cfg.chatterLimit]
      ++ be16 o.cfg.steadyMs ++ be16 o.cfg.service
      ++ [bit o.staged.transit.isSome + 2 * bit o.staged.chatter.isSome + 4 * bit o.staged.steady.isSome]
      ++ be16 (o.staged.transit.getD 0) ++ [u8 (o.staged.chatter.getD 0)] ++ be16 (o.staged.steady.getD 0)
      ++ [bit (decide (o.admission = .suspended)), o.shown.byte, o.reported.byte] ++ be32 o.lastChange
      ++ [u8 o.changes, o.events, o.readFlags] ++ be16 o.opCount ++ [bit o.serviceLatch]
      ++ be16 o.pair.lastPickUp ++ be16 o.pair.lastDropAway
      ++ [directionByte o.pair.lastDir, o.bandByte, shownOrFF o.code.candidate]
      ++ be16 o.code.lastRate ++ be16 (min o.code.lastOnTime 65535)
      ++ [u8 o.code.lastDuty, queueByte s (.object n)] := by
  rw [objectData, objectDefinitionData, objectStagedData, objectStandingData, objectTimesData, senseByte_eq,
    stagedMarker_eq, admission_byte, indicationByte_eq]
  simp only [List.append_assoc, List.cons_append, List.nil_append]
  rfl

theorem length_objectData (s : State) (n : ObjId) (o : Obj) : (objectData s n o).length = 47 := by
  simp [objectData, objectDefinitionData, objectStagedData, objectStandingData, objectTimesData, be16, be32]

theorem flagBits (a b c d : Bool) : (bitIf 0 a ||| bitIf 1 b ||| bitIf 2 c ||| bitIf 3 d).getLsbD 0 = a
    ∧ (bitIf 0 a ||| bitIf 1 b ||| bitIf 2 c ||| bitIf 3 d).getLsbD 2 = c := by
  revert a b c d
  decide

/-- The two bits of the flags byte that are fixed, whichever the other two show (log 17). -/
theorem readFlags_bits (o : Obj) : o.readFlags.getLsbD 0 = o.quarantined ∧ o.readFlags.getLsbD 2 = o.degraded := by
  unfold Obj.readFlags
  split
  · exact flagBits _ _ _ _
  · have only : o.flagsOfR37 = bitIf 0 o.quarantined ||| bitIf 1 false ||| bitIf 2 o.degraded ||| bitIf 3 false := by
      simp [Obj.flagsOfR37, bitIf]
    rw [only]
    exact flagBits _ _ _ _

theorem outputData_layout (s : State) (i : OutId) (x : Output) : outputData s i x
    = [u8 i.val] ++ be16 x.cfg.tag ++ [bit (decide (x.cfg.mode = .latchable)), numberByte x.cfg.partner,
        numberByte x.cfg.proving, shownOrFF x.cfg.expected]
      ++ be16 x.cfg.pulseMs ++ be16 x.cfg.provingMs ++ [bit x.stagedPulse.isSome + 2 * bit x.stagedProving.isSome]
      ++ be16 (x.stagedPulse.getD 0) ++ be16 (x.stagedProving.getD 0)
      ++ [stateCode x.state] ++ endBytes x.state
      ++ [bit (s.readbackOn i), bit x.mismatch.isSome] ++ be32 (x.mismatch.getD 0)
      ++ [(s.proof i).phase.byte, commandCode (s.proof i).kind] ++ be32 (s.proof i).start
      ++ be32 ((s.proof i).deadline.getD 0)
      ++ [outcomeCode x.result.outcome, commandCode x.result.kind] ++ be32 x.result.start ++ be16 x.result.time
      ++ [bit x.result.unsent, u8 x.result.lost, queueByte s (.output i)] := by
  rw [outputData, outputDefinitionData, outputDriverData, proofData, outcomeData, mode_byte, indicationByte_eq,
    stagedMarker_two, state_byte, timeBytes_endTime, kindByte_eq, kindByte_eq, outcomeByte_eq]
  simp only [List.append_assoc, List.cons_append, List.nil_append]
  rfl

theorem length_outputData (s : State) (i : OutId) (x : Output) : (outputData s i x).length = 48 := by
  simp [outputData, outputDefinitionData, outputDriverData, proofData, outcomeData, timeBytes, be16, be32]

/-! ### Equal parts of a list -/

section Parts

variable {α β : Type} {f : α → List β} {m : Nat} (size : ∀ a, (f a).length = m)
include size

theorem length_flatMap_const (l : List α) : (l.flatMap f).length = m * l.length := by
  induction l with
  | nil => rfl
  | cons a l ih => rw [List.flatMap_cons, List.length_append, size, ih, List.length_cons, Nat.mul_succ, Nat.add_comm]

/-- The k-th of the equal parts a list is made of. -/
theorem flatMap_part (l : List α) {k : Nat} (h : k < l.length) : ((l.flatMap f).drop (m * k)).take m = f l[k] := by
  induction l generalizing k with
  | nil => cases h
  | cons a l ih =>
    rw [List.flatMap_cons]
    cases k with
    | zero => rw [Nat.mul_zero, List.drop_zero, List.take_left' (size a)]; rfl
    | succ k =>
      have next := ih (Nat.lt_of_succ_lt_succ h)
      rw [Nat.mul_succ, Nat.add_comm, ← List.drop_drop, List.drop_left' (size a), next]
      rfl

end Parts

/-! ### The shares of Read Points -/

theorem shares_cons (k : Nat) {l : List PointId} (h : l ≠ []) : shares (k + 1) l = l.take 22 :: shares k (l.drop 22) := by
  cases l with
  | nil => contradiction
  | cons p l => rfl

theorem length_shares {k : Nat} {l : List PointId} (fits : l.length ≤ 22 * k) :
    (shares k l).length = (l.length + 21) / 22 := by
  induction k generalizing l with
  | zero =>
    rw [List.eq_nil_of_length_eq_zero (Nat.le_zero.mp fits)]
    rfl
  | succ k ih =>
    by_cases empty : l = []
    · rw [empty]
      rfl
    · have positive := List.length_pos_of_ne_nil empty
      rw [shares_cons k empty, List.length_cons, ih (by rw [List.length_drop]; omega), List.length_drop]
      omega

theorem shares_getElem? {k : Nat} {l : List PointId} (fits : l.length ≤ 22 * k) {q : Nat} (h : 22 * q < l.length) :
    (shares k l)[q]? = some ((l.drop (22 * q)).take 22) := by
  induction k generalizing l q with
  | zero => omega
  | succ k ih =>
    rw [shares_cons k (List.ne_nil_of_length_pos (by omega))]
    cases q with
    | zero => rfl
    | succ q =>
      rw [List.getElem?_cons_succ, ih (by rw [List.length_drop]; omega) (by rw [List.length_drop]; omega), List.drop_drop]
      congr 3
      omega

/-! ### The points read -/

section Range

variable {first : Byte} {count k : Nat}

theorem length_pointRange (p : PointId) (count : Nat) : (pointRange p count).length = count := by simp [pointRange]

/-- The k-th point from a first upward, wrapping past 255. -/
def pointAt (first : Byte) (k : Nat) : PointId := pointNumber (first + BitVec.ofNat 8 k)

theorem pointAt_eq (first : Byte) (k : Nat) : pointNumber first + Fin.ofNat 256 k = pointAt first k := by
  refine Fin.ext ?_
  simp [pointAt, pointNumber, Fin.val_add]

theorem pointRange_eq (first : Byte) (count : Nat) :
    pointRange (pointNumber first) count = (List.range count).map (pointAt first) :=
  List.map_congr_left fun k _ => pointAt_eq first k

theorem pointRange_getElem (h : k < (pointRange (pointNumber first) count).length) :
    (pointRange (pointNumber first) count)[k] = pointAt first k := by
  rw [List.getElem_of_eq (pointRange_eq first count) h]
  simp

theorem mem_pointRange {p : PointId} :
    p ∈ pointRange (pointNumber first) count ↔ ∃ k, k < count ∧ p = pointAt first k := by
  simp [pointRange_eq, eq_comm]

theorem u8_pointAt (first : Byte) (k : Nat) : u8 (pointAt first k).val = first + BitVec.ofNat 8 k :=
  (BitVec.ofNat_toNat _ _).trans (BitVec.setWidth_eq _)

end Range

theorem length_pointData (x : Point) : (pointData x).length = 11 := by simp [pointData, be32]

theorem length_healthEntry (h : Health) : (healthEntry h).length = 7 := by simp [healthEntry, be16]

theorem pointsPart_received (s : State) : pointsPart (received s) = pointsPart s := by
  funext points
  simp [pointsPart]

theorem healthData_received (s : State) : healthData (received s) = healthData s := by
  funext first count
  simp [healthData]

/-- The part of a Read Points answer that holds the k-th point, and the place of that point in it. -/
theorem pointsData_part (s : State) (first : Byte) {count k : Nat} (h : k < count) (fits : count ≤ 66) :
    ∃ part, (pointsData s (pointNumber first) count)[k / 22]? = some part
      ∧ part[0]? = some (first + BitVec.ofNat 8 (22 * (k / 22)))
      ∧ part[1]? = some (BitVec.ofNat 8 (min 22 (count - 22 * (k / 22))))
      ∧ (part.drop (2 + 11 * (k % 22))).take 11 = pointData (s.point (pointAt first k)) := by
  let range_ := pointRange (pointNumber first) count
  have length : range_.length = count := length_pointRange _ _
  have start : 22 * (k / 22) < range_.length := by omega
  let share := (range_.drop (22 * (k / 22))).take 22
  have shareLength : share.length = min 22 (count - 22 * (k / 22)) := by
    rw [List.length_take, List.length_drop, length]
  have within : k % 22 < share.length := by omega
  have head : (share.head?.map Fin.val).getD 0 = (pointAt first (22 * (k / 22))).val := by
    rw [List.head?_take, if_neg (by decide), List.head?_drop, List.getElem?_eq_getElem start, pointRange_getElem]
    rfl
  have entry : share[k % 22] = pointAt first k := by
    rw [List.getElem_take, List.getElem_drop, pointRange_getElem, Nat.div_add_mod]
  refine ⟨pointsPart s share, ?_, ?_, ?_, ?_⟩
  · rw [pointsData, List.getElem?_map, shares_getElem? (by omega) start]
    rfl
  · rw [pointsPart, head, u8_pointAt]
    rfl
  · rw [pointsPart, shareLength]
    rfl
  · rw [pointsPart, ← List.drop_drop]
    change ((share.flatMap fun p => pointData (s.point p)).drop (11 * (k % 22))).take 11 = _
    rw [flatMap_part (fun p => length_pointData (s.point p)) share within, entry]

/-! ### The clear of Read Health -/

theorem healthOf_setHealth (s : State) (p q : PointId) (h : Health) :
    (s.setHealth p h).healthOf q = if q = p then h else s.healthOf q := by
  simp [State.setHealth, State.healthOf, upd_get]

theorem healthOf_clearHealth (l : List PointId) (s : State) (p : PointId) :
    (clearHealth l s).healthOf p = if p ∈ l then (s.healthOf p).cleared else s.healthOf p := by
  induction l generalizing s with
  | nil => rfl
  | cons q l ih =>
    change (clearHealth l (s.setHealth q (s.healthOf q).cleared)).healthOf p = _
    rw [ih, healthOf_setHealth]
    by_cases same : p = q
    · subst same
      simp [Health.cleared]
    · simp [same]

theorem clearHealth_only (l : List PointId) (s : State) :
    clearHealth l s = { s with health := (clearHealth l s).health } := by
  induction l generalizing s with
  | nil => rfl
  | cons q l ih => exact ih (s.setHealth q (s.healthOf q).cleared)

/-! ### The handlers -/

section Handlers

variable (loaded : s.partState ≠ .loading)
include loaded

theorem msgReadObject_undefined {b : Byte} (h : s.findObject b = none) : msgReadObject [b] s = refuse .noSuch s := by
  rw [msgReadObject, afterLoading_pass _ loaded, h]

theorem msgReadObject_defined {b : Byte} (h : s.findObject b = some (n, o)) :
    msgReadObject [b] s = answered .accepted [objectData s n o] s := by
  rw [msgReadObject, afterLoading_pass _ loaded, h]

theorem msgReadOutput_undefined {b : Byte} (h : s.findOutput b = none) : msgReadOutput [b] s = refuse .noSuch s := by
  rw [msgReadOutput, afterLoading_pass _ loaded, h]

theorem msgReadOutput_defined {b : Byte} (h : s.findOutput b = some (i, x)) :
    msgReadOutput [b] s = answered .accepted [outputData s i x] s := by
  rw [msgReadOutput, afterLoading_pass _ loaded, h]

theorem msgReadPoints_eq (first count : Byte) : msgReadPoints [first, count] s
    = answered (acceptedCode (clampField 1 64 count.toNat).moved)
        (pointsData s (pointNumber first) (clamp 1 64 count.toNat)) s := by
  rw [msgReadPoints, afterLoading_pass _ loaded]
  rfl

theorem msgReadHealth_malformed (first count : Byte) {opt : Byte} (h : 1 < opt.toNat) :
    msgReadHealth [first, count, opt] s = refuse .badForm s := by
  rw [msgReadHealth, afterLoading_pass _ loaded, (flag_none_iff opt).mpr h]

theorem msgReadHealth_eq (first count : Byte) {opt : Byte} (h : opt.toNat ≤ 1) : msgReadHealth [first, count, opt] s
    = answered (acceptedCode (clampField 1 32 count.toNat).moved)
        [healthData s (pointNumber first) (clamp 1 32 count.toNat)]
        (if decide (opt = 1) then clearHealth (pointRange (pointNumber first) (clamp 1 32 count.toNat)) s else s) := by
  rw [msgReadHealth, afterLoading_pass _ loaded, flagOfByte_some h]
  rfl

end Handlers

theorem acceptedCode_codeFor {moved : Bool} {P : Prop} [Decidable P] (h : moved = true ↔ P) :
    acceptedCode moved = codeFor P := by
  unfold codeFor
  split
  · exact acceptedCode_moved h ‹_›
  · exact acceptedCode_kept h ‹_›

theorem u8_number {k : Nat} {m : Fin k} {b : Byte} (h : m.val = b.toNat) : u8 m.val = b := by
  rw [h]
  exact (BitVec.ofNat_toNat _ _).trans (BitVec.setWidth_eq _)

theorem levelBits (a b : Bool) : (bitIf 0 a ||| bitIf 1 b).getLsbD 0 = a ∧ (bitIf 0 a ||| bitIf 1 b).getLsbD 1 = b
    ∧ (bitIf 0 a ||| bitIf 1 b).toNat < 4 := by
  revert a b
  decide

theorem judgedByte_eq {count : Nat} (h : count ≤ 2) (degraded : Bool) :
    u8 count ||| bitIf 7 degraded = BitVec.ofNat 8 (count + if degraded = true then 128 else 0) := by
  have cases_ : count = 0 ∨ count = 1 ∨ count = 2 := by omega
  rcases cases_ with rfl | rfl | rfl <;> cases degraded <;> rfl

/-- Settles O48: each read's data by its layout; the shares of Read Points and the clear of Read Health by the points
read. -/
theorem readRecordsAndTables : Obligations.ReadRecordsAndTables := by
  unfold Obligations.ReadRecordsAndTables
  intro flag shown
  refine ⟨fun s num ⟨ready, isLoaded⟩ => ?_, fun x => ?_, fun h within => ?_,
    fun s first count opt ⟨ready, isLoaded⟩ => ?_⟩
  · have loaded := received_loaded isLoaded
    refine ⟨fun undefined_ => ?_, fun undefined_ => ?_, fun n o hn found => ?_, fun i x hi found => ?_⟩
    · exact refuses_of (m := msgReadObject) ready rfl
        (msgReadObject_undefined loaded ((findObject_received num).trans (findObject_none undefined_)))
    · exact refuses_of (m := msgReadOutput) ready rfl
        (msgReadOutput_undefined loaded ((findOutput_received num).trans (findOutput_none undefined_)))
    · have addressed := (findObject_received (s := s) num).trans (findObject_some hn found)
      refine ⟨objectData (received s) n o, o.readFlags, answersWith_of (m := msgReadObject) ready rfl
        (msgReadObject_defined loaded addressed), length_objectData _ _ _, (readFlags_bits o).1, (readFlags_bits o).2, ?_⟩
      rw [objectData_layout, queueByte_received (src := .object n) nofun, u8_number hn]
      rfl
    · have addressed := (findOutput_received (s := s) num).trans (findOutput_some hi found)
      refine ⟨outputData (received s) i x, answersWith_of (m := msgReadOutput) ready rfl
        (msgReadOutput_defined loaded addressed), length_outputData _ _ _, ?_⟩
      rw [outputData_layout, queueByte_received (src := .output i) nofun, u8_number hi, received_readbackOn, received_proof]
      congr
      · cases x.cfg.partner <;> rfl
      · cases x.cfg.proving <;> rfl
  · obtain ⟨raw, filtered, small⟩ := levelBits (decide (x.raw = .made)) (decide (x.filtered = .made))
    refine ⟨_, ?_, by rw [raw, decide_eq_true_iff], by rw [filtered, decide_eq_true_iff], small⟩
    rw [pointData]
    cases x.owner <;> rfl
  · rw [healthEntry, judgedByte_eq within]
  · have loaded := received_loaded isLoaded
    have points66 : clamp 1 64 count.toNat ≤ 66 := by
      unfold clamp
      omega
    refine ⟨⟨pointsData s (pointNumber first) (clamp 1 64 count.toNat), ?_, ?_, fun k hk =>
      pointsData_part s first hk points66⟩, fun malformed => ?_, fun named => ?_⟩
    · have read := msgReadPoints_eq loaded first count
      rw [acceptedCode_codeFor (clampField_moved (by decide)), pointsData, pointsPart_received] at read
      exact answersWith_of (m := msgReadPoints) ready rfl read
    · rw [pointsData, List.length_map, length_shares (by rw [length_pointRange]; omega), length_pointRange]
    · exact refuses_of (m := msgReadHealth) ready rfl (msgReadHealth_malformed loaded first count malformed)
    · have read := msgReadHealth_eq loaded first count named
      rw [acceptedCode_codeFor (clampField_moved (by decide)), healthData_received] at read
      refine ⟨_, _, answersWith_of (m := msgReadHealth) ready rfl read, ?_, ?_, ?_, rfl, fun k hk => ?_, fun p => ?_⟩
      · split
        · exact clearHealth_only _ _
        · rfl
      · rw [healthData, List.length_append, length_flatMap_const fun p => length_healthEntry (s.healthOf p),
          length_pointRange]
        rfl
      · rw [healthData, u8_number (m := pointNumber first) rfl]
        rfl
      · have within : k < (pointRange (pointNumber first) (clamp 1 32 count.toNat)).length := by
          rwa [length_pointRange]
        rw [healthData, ← List.drop_drop]
        change (((pointRange (pointNumber first) (clamp 1 32 count.toNat)).flatMap fun p =>
          healthEntry (s.healthOf p)).drop (7 * k)).take 7 = _
        rw [flatMap_part (fun p => length_healthEntry (s.healthOf p)) _ within, pointRange_getElem]
        rfl
      · by_cases one : opt = 1
        · rw [if_pos (decide_eq_true one), healthOf_clearHealth, received_healthOf]
          by_cases read_ : p ∈ pointRange (pointNumber first) (clamp 1 32 count.toNat)
          · rw [if_pos read_, if_pos ⟨one, mem_pointRange.mp read_⟩]
            rfl
          · rw [if_neg read_, if_neg fun h => read_ (mem_pointRange.mpr h.2)]
        · rw [if_neg (by simpa using one), if_neg fun h => one h.1, received_healthOf]

end Sys2Proof.Proofs.Reads
end
